-- ==== Sys2Proof/Word.lean ====
section
/-! DEFINITION. The words of the WN4180: bytes of the link, 16-bit words of the sensor stream, values of the session
clock, and the shape of a partition of the stacked DRAM (`Plane`). The operations on planes are in Machine/Plane.lean. -/

namespace Sys2Proof

/-- One byte of a frame on the SPI target port (section 11.6). -/
abbrev Byte := BitVec 8

/-- One word of the sensor stream port (section 3.1). -/
abbrev Half := BitVec 16

/-- A value of the session clock, in milliseconds, wrapping at 2^32 (R8). -/
abbrev Time := BitVec 32

/-- The contents of one partition of the stacked DRAM (or of any table indexed by a number): a map from Nat to records,
held as a binary trie on the digits of the index, lowest digit first. An index that is not stored reads as the default
record. DESIGN CHOICE (log 21): the partitions are held record by record; the spec gives no byte addresses. -/
inductive Plane (α : Type) where
  /-- Nothing stored at or below here. -/
  | nil
  /-- `here` is what is stored at the index that ends here; `even` and `odd` continue with the next digit. -/
  | node (here : Option α) (even odd : Plane α)
  deriving DecidableEq, Repr

end Sys2Proof
end

