-- ==== Sys2Proof/Syntax.lean ====
section
/-! DEFINITION. The commands of the WN4180: one constructor of `Instr` for each row of spec/opcode_table.json, with the
operands the rules give it. -/

namespace Sys2Proof

/-- A request frame as the link takes it (R188, R189): the tag, the payload (4 × length bytes), and how many further bytes
the host sent before the end of the assertion, which the link ignores. The kind byte is the command's. -/
structure ReqFrame where
  tag : Byte
  payload : List Byte
  trailing : Nat
  deriving DecidableEq, Repr

/-- The 48 requests of the kind table (R203). -/
inductive Req where
  | ping | statusGet | reportFetch | systemReset
  | powerStandby | powerSleep | powerRun | powerNap
  | sensorFormat | sessionConfigure | sessionOpen | sessionPause | sessionResume | sessionClose | sessionDiscard | sessionInfo
  | darkBuild | darkEnd | darkAbort | darkFree | darkList
  | defectAdd | defectRemove | defectClear | defectList
  | starsFind | guideList | guideAdd | guideDrop | candidateList | starsConfigure
  | trackConfigure | trackMode | trackSetRate | trackSetPole | trackStatus | trackClearLol
  | regionSet | regionClear | regionList
  | stackConfigure | stackStatus | tileStatus
  | finishStart | previewArea | outputRead | outputRelease | finishConfigure
  deriving DecidableEq, Repr

/-- Where a stage reads memory: an uncorrectable error is met by one read of a word, and R59, R74 and R154 rule by the
read that met it. -/
inductive ReadSite where
  /-- MEASURE reads the window of the guide in this slot (R88). -/
  | window (slot : Nat)
  /-- The finder considers the cell with this raster index (R93, R94). -/
  | finder (cell : Nat)
  /-- The ground pass (R146). -/
  | groundPass
  /-- The sky pass (R147). -/
  | skyPass
  /-- The check sweep of DARK_ADD (R60). -/
  | checkSweep
  /-- The add sweep of DARK_ADD (R60, R65). -/
  | addSweep
  /-- Dark finalization (R68). -/
  | finalization
  /-- A TILE.STATUS computation (R160). -/
  | tileStatus
  /-- A render tile (R167). -/
  | renderTile
  /-- OUTPUT.READ (R173). -/
  | outputRead
  deriving DecidableEq, Repr

/-- A 64-bit word of the stacked DRAM, by its partition and its place there. -/
inductive MemWord where
  /-- The staged frame in processing: samples 4w to 4w+3. -/
  | staging (w : Nat)
  /-- The plane of a dark slot: values 4w to 4w+3. -/
  | dark (slot w : Nat)
  /-- The dark scratch partition: sums 2w and 2w+1. -/
  | scratch (w : Nat)
  /-- The sky layer: bytes 8w to 8w+7 of its records. -/
  | sky (w : Nat)
  /-- The ground layer: bytes 8w to 8w+7 of its records. -/
  | ground (w : Nat)
  /-- The output partition: samples 4w to 4w+3. -/
  | output (w : Nat)
  deriving DecidableEq, Repr

/-- One uncorrectable error: the read that meets it and the word. -/
structure MemError where
  site : ReadSite
  word : MemWord
  deriving DecidableEq, Repr

/-- The memory errors a step meets (log 6): how many corrected ones, and which reads find a word uncorrectable. -/
structure Ecc where
  corrected : Nat
  uncorrectable : List MemError
  deriving DecidableEq, Repr

/-- How far the job in flight had got when a command abandons it, and the memory errors it had met (log 5). The units are
those of the job: guide slots, scan cells, pixel offers, pixels. -/
structure Progress where
  units : Nat
  ecc : Ecc
  deriving DecidableEq, Repr

/-- The commands: one constructor for each row of spec/opcode_table.json, in the table's order. -/
inductive Instr where
  /-- PING (R197). -/
  | ping (f : ReqFrame)
  /-- STATUS_GET (R198). -/
  | statusGet (f : ReqFrame)
  /-- REPORT_FETCH (R196). -/
  | reportFetch (f : ReqFrame)
  /-- SYSTEM_RESET (R199). -/
  | systemReset (f : ReqFrame) (p : Progress)
  /-- POWER_STANDBY (R179). -/
  | powerStandby (f : ReqFrame)
  /-- POWER_SLEEP (R184). -/
  | powerSleep (f : ReqFrame)
  /-- POWER_RUN (R186). -/
  | powerRun (f : ReqFrame)
  /-- POWER_NAP (R183). -/
  | powerNap (f : ReqFrame)
  /-- SENSOR_FORMAT (R20). -/
  | sensorFormat (f : ReqFrame)
  /-- SESSION_CONFIGURE (R22). -/
  | sessionConfigure (f : ReqFrame)
  /-- SESSION_OPEN (R25). -/
  | sessionOpen (f : ReqFrame)
  /-- SESSION_PAUSE (R33). -/
  | sessionPause (f : ReqFrame)
  /-- SESSION_RESUME (R34). -/
  | sessionResume (f : ReqFrame)
  /-- SESSION_CLOSE (R35). -/
  | sessionClose (f : ReqFrame)
  /-- SESSION_DISCARD (R36). -/
  | sessionDiscard (f : ReqFrame) (p : Progress)
  /-- SESSION_INFO (R37). -/
  | sessionInfo (f : ReqFrame)
  /-- DARK_BUILD (R64). -/
  | darkBuild (f : ReqFrame)
  /-- DARK_END (R66). -/
  | darkEnd (f : ReqFrame)
  /-- DARK_ABORT (R69). -/
  | darkAbort (f : ReqFrame) (p : Progress)
  /-- DARK_FREE (R70). -/
  | darkFree (f : ReqFrame)
  /-- DARK_LIST (R71). -/
  | darkList (f : ReqFrame)
  /-- DEFECT_ADD (R77). -/
  | defectAdd (f : ReqFrame)
  /-- DEFECT_REMOVE (R78). -/
  | defectRemove (f : ReqFrame)
  /-- DEFECT_CLEAR (R79). -/
  | defectClear (f : ReqFrame)
  /-- DEFECT_LIST (R80). -/
  | defectList (f : ReqFrame)
  /-- STARS_FIND (R97). -/
  | starsFind (f : ReqFrame)
  /-- GUIDE_LIST (R101). -/
  | guideList (f : ReqFrame)
  /-- GUIDE_ADD (R98). -/
  | guideAdd (f : ReqFrame)
  /-- GUIDE_DROP (R100). -/
  | guideDrop (f : ReqFrame)
  /-- CANDIDATE_LIST (R102). -/
  | candidateList (f : ReqFrame)
  /-- STARS_CONFIGURE (R103). -/
  | starsConfigure (f : ReqFrame)
  /-- TRACK_CONFIGURE (R122). -/
  | trackConfigure (f : ReqFrame)
  /-- TRACK_MODE (R123). -/
  | trackMode (f : ReqFrame)
  /-- TRACK_SET_RATE (R124). -/
  | trackSetRate (f : ReqFrame)
  /-- TRACK_SET_POLE (R125). -/
  | trackSetPole (f : ReqFrame)
  /-- TRACK_STATUS (R127). -/
  | trackStatus (f : ReqFrame)
  /-- TRACK_CLEAR_LOL (R126). -/
  | trackClearLol (f : ReqFrame)
  /-- REGION_SET (R136). -/
  | regionSet (f : ReqFrame)
  /-- REGION_CLEAR (R138). -/
  | regionClear (f : ReqFrame)
  /-- REGION_LIST (R139). -/
  | regionList (f : ReqFrame)
  /-- STACK_CONFIGURE (R157). -/
  | stackConfigure (f : ReqFrame)
  /-- STACK_STATUS (R158). -/
  | stackStatus (f : ReqFrame)
  /-- TILE_STATUS (R159). -/
  | tileStatus (f : ReqFrame)
  /-- FINISH_START (R169). -/
  | finishStart (f : ReqFrame)
  /-- PREVIEW_AREA (R171). -/
  | previewArea (f : ReqFrame)
  /-- OUTPUT_READ (R172). -/
  | outputRead (f : ReqFrame) (e : Ecc)
  /-- OUTPUT_RELEASE (R174). -/
  | outputRelease (f : ReqFrame) (p : Progress)
  /-- FINISH_CONFIGURE (R175). -/
  | finishConfigure (f : ReqFrame)
  /-- UNKNOWN_KIND_REQUEST (R192): a request whose kind code is not in the table. -/
  | unknownKindRequest (kind : Byte) (f : ReqFrame)
  /-- SHORT_REQUEST_FRAME (R189): the bytes of the frame, the start byte first. -/
  | shortRequestFrame (bytes : List Byte)
  /-- REPLY_READ_FRAME (R188): a frame of `len` bytes that is not a request frame. -/
  | replyReadFrame (len : Nat)
  /-- REQUEST_FRAME_WHILE_BUSY (R191): a request frame of `len` bytes written while RDY is low. -/
  | requestFrameWhileBusy (len : Nat)
  /-- SENSOR_HEADER (R42): the words of the item after the first. -/
  | sensorHeader (words : List Half)
  /-- SENSOR_ROW (R45): the words of the item after the first, the row index among them. -/
  | sensorRow (words : List Half)
  /-- SENSOR_END_MARKER (R46). -/
  | sensorEndMarker
  /-- SENSOR_UNKNOWN_ITEM (R39): the words of the item, whose first names no kind. -/
  | sensorUnknownItem (words : List Half)
  /-- CLOCK_TICK (R8): one millisecond. -/
  | clockTick
  /-- PROGRESS_TRANSITION (R38). -/
  | progressTransition
  /-- NAP_TIMER_EXPIRY (R182). -/
  | napTimerExpiry
  /-- STANDBY_RESOLVE (R180). -/
  | standbyResolve
  /-- SLEEP_WAKE_COMPLETE (R186). -/
  | sleepWakeComplete
  /-- HARDWARE_RESET (R200); `p` says how far the job in flight had got (R153). -/
  | hardwareReset
  /-- HARDWARE_RESET_DONE (R200). -/
  | hardwareResetDone
  /-- LAYER_CLEARING (R26): the clearing completes. -/
  | layerClearing
  /-- ENGINE_JOB_SELECT (R50). -/
  | engineJobSelect
  /-- MEASURE (R88). -/
  | measure (e : Ecc)
  /-- TRACK (R89). -/
  | track
  /-- FIND (R92). -/
  | find (e : Ecc)
  /-- STACK (R152), RETIRE included. -/
  | stack (e : Ecc)
  /-- DARK_ADD (R55). -/
  | darkAdd (e : Ecc)
  /-- DARK_FINALIZATION (R68). -/
  | darkFinalization (e : Ecc)
  /-- TILE_STATUS_COMPUTATION (R160). -/
  | tileStatusComputation (e : Ecc)
  /-- RENDER_TILE (R163). -/
  | renderTile (e : Ecc)
  deriving DecidableEq, Repr

end Sys2Proof
end

