-- ==== Sys2Proof/Config.lean ====
section
/-! DEFINITION. What the spec leaves open, as constants without a body: nothing can be proved of their values, so a claim
holds whatever they are. -/

namespace Sys2Proof.Config

/-- FREE VALUE (log 8, DESIGN CHOICE): the tile status that R142 calls undefined, between a reset and the next SESSION.OPEN.
It is applied to the counter `freeSeed`, to the layer (`true` for sky) and to the tile index; `none` is NORMAL, `some q` is
DAMAGED with the damage sequence `q`. -/
opaque undefinedTileStatus : Nat → Bool → Nat → Option (Option Nat)

/-- FREE VALUE (log 10, DESIGN CHOICE): the kind byte of the reply to a request frame whose kind code is 0x80 or above, where
R189's and R202's "kind with 0x80 added" does not fit one byte. -/
opaque replyKindBeyond : Byte → Byte

/-- FREE VALUE (log 5, DESIGN CHOICE): how far the job in flight had got when the reset input stopped it, in the units of
`Progress`, applied to the counter `freeSeed`. -/
opaque resetUnits : Nat → Nat

/-- FREE VALUE (log 5, DESIGN CHOICE): the uncorrectable memory errors which that job had met by then, applied to the counter
`freeSeed`. -/
opaque resetErrors : Nat → List MemError

/-- FREE VALUE (log 35, DESIGN CHOICE): the sum, count and clipped flag of a record held in an uncorrectable layer word, which
R154 calls unknown, within the fields that R140 gives them. It is applied to the counter `freeSeed`, to the layer (`true` for
sky) and to the record address. -/
opaque lostRecord : Nat → Bool → Nat → BitVec 32 × Fin 16001 × Bool

/-- FREE VALUE (log 38, DESIGN CHOICE): how far the job in flight has got when a request that only reports is taken (R37, R71,
R101, R102, R158), in the units of `Progress`, applied to the counter `freeSeed`. -/
opaque seenUnits : Nat → Nat

/-- FREE VALUE (log 38, DESIGN CHOICE): the uncorrectable memory errors which that job has met by then, applied to the counter
`freeSeed`. -/
opaque seenErrors : Nat → List MemError

end Sys2Proof.Config
end

