-- ==== Sys2Proof/Machine/Arith.lean ====
section
/-! DEFINITION. The rounding words, clamping, saturating and wrapping counts, medians, and the sine and cosine of an angle
(chapter 1, R6, R14, R16). All arithmetic is exact on Int and Nat. -/

namespace Sys2Proof.Machine

/-- *floor* of a / b (R6). -/
def floorQ (a b : Int) : Int := Int.fdiv a b

/-- *toward-zero* of a / b (R6). -/
def towardZero (a b : Int) : Int := Int.tdiv a b

/-- *nearest-away* of a / b: nearest integer, a half rounded away from zero (R6). -/
def nearestAway (a b : Int) : Int :=
  let magnitude : Int := ((2 * a.natAbs + b.natAbs) / (2 * b.natAbs) : Nat)
  if (a < 0 ↔ b < 0) then magnitude else -magnitude

/-- Clamping of an integer to a range (00_scope, Conventions). -/
def clamp (lo hi x : Int) : Int := max lo (min x hi)

/-- Clamping of an unsigned number to a range. -/
def clampN (lo hi x : Nat) : Nat := max lo (min x hi)

/-- The largest value of a 32-bit count. -/
def max32 : Nat := 4294967295

/-- Add to a count that stays at 4,294,967,295 (R23, R143). -/
def satAdd (n k : Nat) : Nat := min (n + k) max32

/-- The angle clamp of R7, in nrad. -/
def clampAngle (a : Int) : Int := clamp (-2140000000) 2140000000 a

/-- The rate clamp of R7, in nrad per second. -/
def clampRate (r : Int) : Int := clamp (-74000) 74000 r

/-- Insert into an ascending list, after equal elements. -/
def insertAsc (x : Int) : List Int → List Int
  | [] => [x]
  | y :: ys => if x < y then x :: y :: ys else y :: insertAsc x ys

/-- A list in ascending order. -/
def sortAsc : List Int → List Int
  | [] => []
  | x :: xs => insertAsc x (sortAsc xs)

/-- The median of R109 and R149: the middle value, or the mean of the two middle values rounded toward-zero; absent for an
empty list. -/
def median (xs : List Int) : Option Int :=
  let sorted := sortAsc xs
  let n := sorted.length
  if n = 0 then none
  else if n % 2 = 1 then sorted[n / 2]?
  else match sorted[n / 2 - 1]?, sorted[n / 2]? with
    | some a, some b => some (towardZero (a + b) 2)
    | _, _ => none

/-- The mean of a list of integers rounded toward-zero (R118); 0 for an empty list. -/
def meanTowardZero (xs : List Int) : Int := towardZero xs.sum xs.length

/-- 2^30, the scale of the trigonometry results (R16). -/
def trigScale : Int := 1073741824

/-- The alternating series 1 − x²/c(k)·(1 − x²/c(k+1)·(…)) cut after `n` terms, for x = a × 10^-9, as an exact fraction
(numerator, denominator); `a2` is a². -/
def alternating (a2 : Int) (c : Nat → Int) : Nat → Nat → Int × Int
  | 0, _ => (1, 1)
  | n + 1, k =>
    let inner := alternating a2 c n (k + 1)
    let d := inner.2 * (1000000000000000000 * c k)
    (d - a2 * inner.1, d)

/-- How many terms of the series are taken: the rest is below 10^-60 for every angle of R7 (log 9). -/
def trigTerms : Nat := 30

/-- sin (a × 10^-9) as an exact fraction, but for the rest of the series. -/
def sinFraction (a : Int) : Int × Int :=
  let f := alternating (a * a) (fun k => (2 * k : Int) * (2 * k + 1)) trigTerms 1
  (a * f.1, 1000000000 * f.2)

/-- cos (a × 10^-9) as an exact fraction, but for the rest of the series. -/
def cosFraction (a : Int) : Int × Int :=
  alternating (a * a) (fun k => (2 * k - 1 : Int) * (2 * k)) trigTerms 1

/-- S of R16: sin A multiplied by 2^30 and rounded nearest-away. -/
def sinScaled (a : Int) : Int := nearestAway (trigScale * (sinFraction a).1) (sinFraction a).2

/-- C of R16: cos A multiplied by 2^30 and rounded nearest-away. -/
def cosScaled (a : Int) : Int := nearestAway (trigScale * (cosFraction a).1) (cosFraction a).2

end Sys2Proof.Machine
end

