-- ==== Sys2Proof/Machine/State.lean ====
section
/-! DEFINITION. The state of the WN4180 as plain data, block by block as 00_scope's block diagram lists them, and the state
at the release of the reset input (`State.reset`). -/

namespace Sys2Proof.Machine

/-! ## Codes of states, reasons, causes and kinds (R204 gives their wire codes, Machine/Wire.lean) -/

/-- Status of a reply (R194). -/
inductive Status where
  | ok | started | badKind | badLength | badValue | wrongState | noSpace | busy | notReady | dataError | asleep
  deriving DecidableEq, Repr

/-- Session states (section 2.2). -/
inductive SessionState where
  | idle | opening | armed | integrating | paused | closing | closed
  deriving DecidableEq, Repr

/-- Reasons of a change of session state (R24). -/
inductive SessionReason where
  | request | cleared | reference | referenceLost | countLimit | timeLimit | drained
  deriving DecidableEq, Repr

/-- Tracker states (R104). -/
inductive TrackState where
  | freerun | acquire | converge | locked | holdover | manual
  deriving DecidableEq, Repr

/-- Tracker modes (R104). -/
inductive TrackMode where
  | auto | freerun | holdover | manual
  deriving DecidableEq, Repr

/-- Causes of a change of tracker state (R108). -/
inductive TrackCause where
  | guides | insufficient | converging | lock | error | unlock | mode | resume | span
  deriving DecidableEq, Repr

/-- Reasons of a drop (R42, R46, R59). -/
inductive DropReason where
  | format | noConsumer | kind | clearing | paused | exposure | limit | noBuffer | malformed | memory
  deriving DecidableEq, Repr

/-- Malformations of an arrival (R45 to R47). -/
inductive Malformation where
  | rowOrder | rowLength | short | missingEnd
  deriving DecidableEq, Repr

/-- Sky skip reasons (R151). -/
inductive SkySkip where
  | none | notLocked | holdExpired | gate
  deriving DecidableEq, Repr

/-- Events of a GUIDE report (R87, R91, R96, R99). -/
inductive GuideEvent where
  | admitted | active | retired | refused
  deriving DecidableEq, Repr

/-- Reasons of a GUIDE report (R86, R87, R99). -/
inductive GuideReason where
  | geometry | missed | probationMiss | crowded | dropped | full | radius | window
  deriving DecidableEq, Repr

/-- Events of a DARK report (R67 to R69). -/
inductive DarkEvent where
  | ready | empty | aborted
  deriving DecidableEq, Repr

/-- Reject modes (R156). -/
inductive RejectMode where
  | off | high | both
  deriving DecidableEq, Repr

/-- Kinds of a render (R162). -/
inductive RenderKind where
  | finish | preview
  deriving DecidableEq, Repr

/-- Partitions of the stacked DRAM, as MEMORY reports name them (R204). -/
inductive Partition where
  | staging | skyLayer | groundLayer | darkLibrary | darkScratch | output
  deriving DecidableEq, Repr

/-- Power states (R177). -/
inductive PowerState where
  | run | standby | sleep
  deriving DecidableEq, Repr

/-- Causes of a POWER report (R187). -/
inductive PowerCause where
  | request | nap | header | link
  deriving DecidableEq, Repr

/-- Causes of a RESET report (R199, R200). -/
inductive ResetCause where
  | hardware | soft
  deriving DecidableEq, Repr

/-! ## Tracker (chapter 6) -/

/-- One gain set of the loop filter (R105). -/
structure Gains where
  pMult : Nat
  pShift : Nat
  iMult : Nat
  iShift : Nat
  deriving DecidableEq, Repr

/-- The tracker settings record (R105). -/
structure TrackSettings where
  acquire : Gains
  normal : Gains
  maxStep : Nat
  rateSlopeLimit : Nat
  lockThreshold : Nat
  unlockThreshold : Nat
  outlierGate : Nat
  lockSpan : Nat
  minGuides : Nat
  refillLevel : Nat
  holdoverHistory : Nat
  holdoverLimit : Nat
  lolThreshold : Nat
  manualRate : Int
  deriving DecidableEq, Repr

/-- The defaults of R105. -/
def TrackSettings.default : TrackSettings where
  acquire := ⟨1, 1, 1, 5⟩
  normal := ⟨1, 3, 1, 8⟩
  maxStep := 500000
  rateSlopeLimit := 500
  lockThreshold := 40000
  unlockThreshold := 120000
  outlierGate := 80000
  lockSpan := 8
  minGuides := 3
  refillLevel := 6
  holdoverHistory := 4
  holdoverLimit := 40
  lolThreshold := 3
  manualRate := 72921

/-- The tracker record and its settings (R104, R105, R121). Angles in nrad, rates in nrad/s, the pole in cs. -/
structure Tracker where
  a : Int
  rem : Nat
  tLast : Time
  rate : Int
  poleX : Int
  poleY : Int
  mode : TrackMode
  state : TrackState
  lockRun : Nat
  holdRun : Nat
  /-- The rates left by LOCKED sub-frames, oldest first. -/
  history : List Int
  lolCount : Nat
  lolLimit : Bool
  largestI : Option Int
  smallestI : Option Int
  largestP : Option Nat
  fewestValid : Option Nat
  settings : TrackSettings
  deriving DecidableEq, Repr

/-! ## Star unit (chapter 5) -/

/-- Verdict of a window measurement (R82). -/
inductive Verdict where
  | found | saturated | notFound
  deriving DecidableEq, Repr

/-- A window measurement (R82, R83): the background is absent only when every border cell is a defect cell, the centroid
is present for a found star. -/
structure Measurement where
  verdict : Verdict
  background : Option Int
  flux : Int
  centroid : Option (Int × Int)
  deriving DecidableEq, Repr

/-- Outcome field of a guide entry (R85). -/
inductive GuideOutcome where
  | found | notFound | saturated | outlier
  deriving DecidableEq, Repr

/-- State of an occupied guide entry (R85); an EMPTY entry is the absent entry. -/
inductive GuideState where
  | probation | active
  deriving DecidableEq, Repr

/-- An occupied entry of the guide table (R85). -/
structure Guide where
  state : GuideState
  refX : Int
  refY : Int
  admissionFlux : Int
  centroid : Option (Int × Int)
  error : Option Int
  background : Option Int
  missRun : Nat
  probationCount : Nat
  outcome : Option GuideOutcome
  deriving DecidableEq, Repr

/-- A candidate record (R94). -/
structure Candidate where
  refX : Int
  refY : Int
  flux : Int
  sequence : Nat
  admission : Nat
  deriving DecidableEq, Repr

/-- The star settings record (R103), in qDN. -/
structure StarSettings where
  starThreshold : Nat
  minFlux : Nat
  findThreshold : Nat
  deriving DecidableEq, Repr

/-- The defaults of R103. -/
def StarSettings.default : StarSettings := ⟨400, 20000, 2000⟩

/-- The star unit: guide table of twelve slots, candidate list, finder arming and settings (R85, R92, R95, R103). -/
structure StarUnit where
  guides : List (Option Guide)
  candidates : List Candidate
  nextAdmission : Nat
  armed : Bool
  settings : StarSettings
  deriving DecidableEq, Repr

/-- What MEASURE holds for one guide until TRACK and STACK use it (R88, R149). -/
structure Measured where
  slot : Nat
  wasActive : Bool
  result : Measurement
  /-- The tangential error of a found star (R84). -/
  error : Option Int
  deriving DecidableEq, Repr

/-! ## Region unit (chapter 7) -/

/-- Class of a region entry and of a tile; HORIZON carries the cut (yl, yr) (R128, R129). -/
inductive TileClass where
  | sky | ground | horizon (yl yr : Nat) | exclude
  deriving DecidableEq, Repr

/-- An occupied entry of the region list (R128), in tiles. -/
structure Region where
  tx : Nat
  ty : Nat
  tw : Nat
  th : Nat
  cls : TileClass
  deriving DecidableEq, Repr

/-! ## Staging pool (chapter 3) -/

/-- Stage of a staging buffer that is not FREE (R48). -/
inductive Stage where
  | arriving | staged | prepare | measure | track | find | stack | darkAdd
  deriving DecidableEq, Repr

/-- Kind of an accepted sub-frame (R40, R42). -/
inductive FrameKind where
  | light | dark
  deriving DecidableEq, Repr

/-- The dark choice of a sub-frame (R72): no slot, one slot, or slots A and B with the terms T − TA and TB − TA. -/
inductive DarkChoice where
  | none
  | one (slot : Nat)
  | two (slotA slotB : Nat) (num den : Int)
  deriving DecidableEq, Repr

/-- The tracker's verdict on the sky pass (R120). -/
inductive Permission where
  | permitted | notLocked | holdExpired
  deriving DecidableEq, Repr

/-- A staging buffer that is not FREE: the sub-frame record of R48, the working set of MEASURE, and the samples as received,
at index row × width + column. -/
structure SubFrame where
  stage : Stage
  acceptance : BitVec 32
  sequence : Nat
  kind : FrameKind
  width : Nat
  height : Nat
  exposureMs : Nat
  temperature : Int
  tH : Time
  tMid : Time
  /-- Slot and build number of the build a dark frame was accepted for. -/
  build : Option (Nat × Nat)
  reference : Bool
  abandoned : Bool
  noDark : Bool
  stagingError : Bool
  aPred : Int
  remPred : Nat
  predS : Int
  predC : Int
  darkChoice : DarkChoice
  measured : List Measured
  phaseError : Option Int
  validCount : Nat
  aK : Int
  finS : Int
  finC : Int
  permission : Permission
  bK : Option Int
  skySkip : SkySkip
  skyRejected : Nat
  skyClipped : Nat
  groundRejected : Nat
  groundClipped : Nat
  samples : Plane Half
  deriving DecidableEq, Repr

/-- The current arrival (R39): the buffer, the row expected next and the first malformation. -/
structure Arrival where
  buffer : Nat
  expected : Nat
  malformation : Option Malformation
  deriving DecidableEq, Repr

/-- Port state (R39); only CAPTURING has a current arrival. -/
inductive PortState where
  | waiting
  | skipping
  | capturing (a : Arrival)
  deriving DecidableEq, Repr

/-- The sensor port (R39, R43, R44). -/
structure SensorPort where
  state : PortState
  /-- The DROPPED flag with its capture: sequence number and reason of the latest drop. -/
  dropped : Option (Nat × DropReason)
  dropTotal : BitVec 32
  nextAcceptance : BitVec 32
  deriving DecidableEq, Repr

/-! ## Integration engine (chapter 3) -/

/-- An edit of the edit queue (R56). -/
inductive Edit where
  | regionSet (index : Nat) (r : Region)
  /-- `none` is ALL. -/
  | regionClear (index : Option Nat)
  | guideAdd (x y : Int)
  | guideDrop (slot : Nat)
  | setPole (x y : Int)
  deriving DecidableEq, Repr

/-- The configuration fields of the pending tracker record (R57, R122). -/
structure TrackFields where
  acquire : Option Gains := none
  normal : Option Gains := none
  maxStep : Option Nat := none
  rateSlopeLimit : Option Nat := none
  lockThreshold : Option Nat := none
  unlockThreshold : Option Nat := none
  outlierGate : Option Nat := none
  lockSpan : Option Nat := none
  minGuides : Option Nat := none
  refillLevel : Option Nat := none
  holdoverHistory : Option Nat := none
  holdoverLimit : Option Nat := none
  lolThreshold : Option Nat := none
  deriving DecidableEq, Repr

/-- The pending tracker record (R57). -/
structure TrackPending where
  fields : TrackFields := {}
  rate : Option Int := none
  mode : Option TrackMode := none
  deriving DecidableEq, Repr

/-- The pending star record (R57, R103). -/
structure StarPending where
  starThreshold : Option Nat := none
  minFlux : Option Nat := none
  findThreshold : Option Nat := none
  deriving DecidableEq, Repr

/-- The pending stack record (R57, R157). -/
structure StackPending where
  rejectMode : Option RejectMode := none
  kq : Option Nat := none
  readVariance : Option Nat := none
  shot : Option Nat := none
  rejectMinCount : Option Nat := none
  gateMargin : Option Nat := none
  stackWhileAcquiring : Option Bool := none
  deriving DecidableEq, Repr

/-- The engine's job (R50). A render tile keeps the tile, and the class map and session counts as it read them when it
began (R163): the map is held as the region list it derives from (R129). -/
inductive Job where
  | clearing
  | light (buffer : Nat)
  | dark (buffer : Nat)
  | finalization
  | tileStatus (tile : Nat)
  | renderTile (tile : Nat) (map : List (Option Region)) (skyStacked groundStacked : Nat)
  deriving DecidableEq, Repr

/-- The integration engine (R50, R56, R57, R159). -/
structure Engine where
  job : Option Job
  /-- The tile of a waiting TILE.STATUS computation. -/
  tileRequest : Option Nat
  edits : List Edit
  pendTracker : TrackPending
  pendStars : StarPending
  pendStack : StackPending
  resumeMark : Bool
  deriving DecidableEq, Repr

/-! ## Calibration unit (chapter 4) -/

/-- The fields of a READY or DAMAGED slot (R62); the plane holds a 16-bit value in qDN for each pixel index. -/
structure Dark where
  temperature : Int
  exposureMs : Nat
  frameCount : Nat
  plane : Plane Half
  deriving DecidableEq, Repr

/-- A dark slot (R62). -/
inductive DarkSlot where
  | free
  | building
  | finalizing
  | ready (d : Dark)
  | damaged (d : Dark)
  deriving DecidableEq, Repr

/-- The build record (R63). -/
structure Build where
  slot : Nat
  number : Nat
  accepting : Bool
  exposureMs : Option Nat
  added : Nat
  outstanding : Nat
  tempSum : Int
  fresh : Bool
  hotLevel : Nat
  deriving DecidableEq, Repr

/-- The calibration unit (R62, R63, R65, R75). -/
structure Calibration where
  slots : List DarkSlot
  build : Option Build
  buildCounter : BitVec 16
  scratch : Plane (BitVec 32)
  defects : List Nat
  deriving DecidableEq, Repr

/-! ## Stacker (chapter 8) -/

/-- An accumulator record (R140). -/
structure Acc where
  sum : Int
  count : Nat
  clipped : Bool
  deriving DecidableEq, Repr

/-- Tile status (R142): NORMAL, or DAMAGED with the optional damage sequence. -/
inductive TileStatus where
  | normal
  | damaged (sequence : Option Nat)
  deriving DecidableEq, Repr

/-- The two layers. -/
inductive LayerId where
  | sky | ground
  deriving DecidableEq, Repr

/-- The stack settings record (R156). -/
structure StackSettings where
  rejectMode : RejectMode
  kq : Nat
  readVariance : Nat
  shot : Nat
  rejectMinCount : Nat
  gateMargin : Nat
  stackWhileAcquiring : Bool
  deriving DecidableEq, Repr

/-- The defaults of R156. -/
def StackSettings.default : StackSettings := ⟨.high, 48, 1600, 1024, 5, 0, false⟩

/-- The totals record (R143). -/
structure Totals where
  skyPasses : Nat
  groundPasses : Nat
  skyRejected : Nat
  groundRejected : Nat
  skyClipped : Nat
  groundClipped : Nat
  skipNotLocked : Nat
  skipHoldExpired : Nat
  skipGate : Nat
  damagedSky : Nat
  damagedGround : Nat
  bRef : Option Int
  deriving DecidableEq, Repr

/-- Cleared totals (R143). -/
def Totals.zero : Totals := ⟨0, 0, 0, 0, 0, 0, 0, 0, 0, 0, 0, none⟩

/-- The stacker (R140 to R143, R156): layers at record address (tile index × 4,096 + local raster index), tile status at tile
index. While `statusDefined` is no the tile status is what R142 calls undefined (log 8). -/
structure Stacker where
  sky : Plane Acc
  ground : Plane Acc
  skyStatus : Plane TileStatus
  groundStatus : Plane TileStatus
  statusDefined : Bool
  totals : Totals
  settings : StackSettings
  deriving DecidableEq, Repr

/-! ## Finisher (chapter 9) -/

/-- The render record (R162). -/
structure Render where
  number : Nat
  kind : RenderKind
  tx : Nat
  ty : Nat
  tw : Nat
  th : Nat
  pedestal : Nat
  /-- The next tile to render, by its index; none when the last has completed. -/
  next : Option Nat
  tiles : Nat
  filled : Nat
  clipped : Nat
  damaged : Nat
  deriving DecidableEq, Repr

/-- The output buffer's state (R161). -/
inductive Output where
  | empty
  | rendering (r : Render)
  | ready (r : Render)
  deriving DecidableEq, Repr

/-- The record of a ready tile: its header (R161, R201, R207) and its samples in local raster order. -/
structure OutTile where
  kind : RenderKind
  number : Nat
  skyStacked : Nat
  groundStacked : Nat
  damageSky : Bool
  damageGround : Bool
  cls : TileClass
  pedestal : Nat
  clock : Time
  width : Nat
  height : Nat
  samples : List Half
  deriving DecidableEq, Repr

/-- The finisher (R161, R162, R175). A tile is ready when `tiles` holds a record at its index. -/
structure Finisher where
  output : Output
  tiles : Plane (Option OutTile)
  renderCounter : BitVec 16
  pedestal : Nat
  deriving DecidableEq, Repr

/-! ## Session controller (chapters 1 and 2) -/

/-- The sensor format in pixels (R19). -/
structure Format where
  width : Nat
  height : Nat
  deriving DecidableEq, Repr

/-- The largest format (R19). -/
def Format.largest : Format := ⟨9600, 6400⟩

/-- The session configuration record (R21). -/
structure SessionConfig where
  exposureMs : Nat
  readoutOffset : Nat
  whiteLevel : Nat
  nominalRate : Int
  poleX : Int
  poleY : Int
  maxSubframes : Nat
  maxDuration : Nat
  progressBit : Nat
  deriving DecidableEq, Repr

/-- The defaults of R21. -/
def SessionConfig.default : SessionConfig := ⟨30000, 0, 16000, 72921, 38400, -20000, 16000, 28800000, 15⟩

/-- The session record (R23). `refMark` is the staging buffer of the outstanding sub-frame with the reference role. -/
structure Session where
  state : SessionState
  tRef : Option Time
  refMark : Option Nat
  accepted : Nat
  processed : Nat
  skyStacked : Nat
  groundStacked : Nat
  dropped : Nat
  lastElapsed : Option Time
  deriving DecidableEq, Repr

/-- The session record after a reset (R23). -/
def Session.cleared : Session := ⟨.idle, none, none, 0, 0, 0, 0, 0, none⟩

/-! ## Link controller (chapter 11) -/

/-- Fields of a SUBFRAME_DONE report (R54, R206). -/
structure DoneReport where
  sequence : Nat
  tMid : Time
  elapsed : Time
  state : TrackState
  validCount : Nat
  aK : Int
  rate : Int
  phaseError : Option Int
  bK : Option Int
  darkChoice : DarkChoice
  noDark : Bool
  skySkip : SkySkip
  skyRejected : Nat
  skyClipped : Nat
  groundRejected : Nat
  groundClipped : Nat
  deriving DecidableEq, Repr

/-- The twelve report kinds with their fields (R206). -/
inductive Report where
  | subframeDone (r : DoneReport)
  | subframeDropped (sequence : Nat) (reason : DropReason) (malformation : Option Malformation)
  | track (old new : TrackState) (cause : TrackCause)
  | guide (slot : Option Nat) (event : GuideEvent) (reason : Option GuideReason)
  | dark (slot : Nat) (event : DarkEvent) (added notAdded : Nat)
  | session (state : SessionState) (reason : SessionReason)
  | render (kind : RenderKind) (number tiles filled clipped damaged : Nat)
  | memory (partition : Partition) (slot : Option Nat) (tile : Nat)
  | power (state : PowerState) (cause : PowerCause)
  | progress (elapsed : Time) (accepted processed skyStacked groundStacked dropped : Nat) (tracker : TrackState)
  | reset (cause : ResetCause)
  | calibration (width height slots defects regions : Nat)
  deriving DecidableEq, Repr

/-- A report of the queue with the session clock at its posting (R195). -/
structure Stamped where
  stamp : Time
  report : Report
  deriving DecidableEq, Repr

/-- Payload of STATUS.GET (R198). -/
structure StatusReply where
  power : PowerState
  pendingStandby : Bool
  session : SessionState
  tracker : TrackState
  engineBusy : Bool
  freeBuffers : Nat
  queueLength : Nat
  dropped : Option (Nat × DropReason)
  lolLimit : Bool
  reportOverflow : Bool
  linkOverrun : Bool
  dropTotal : BitVec 32
  eccCorrected : Nat
  deriving DecidableEq, Repr

/-- One slot of a DARK.LIST reply (R71). -/
inductive SlotReply where
  | free
  | building (finalizing : Bool) (b : Build)
  | held (damaged : Bool) (temperature : Int) (exposureMs frameCount : Nat) (inUse : Bool)
  deriving DecidableEq, Repr

/-- One layer of a TILE.STATUS reply (R160). -/
inductive LayerReply where
  | normal (smallest largest : Nat)
  | damaged (sequence : Option Nat)
  deriving DecidableEq, Repr

/-- Payload of a reply, by the request's entry. -/
inductive Body where
  | empty
  /-- PING (R197). -/
  | ping
  | status (r : StatusReply)
  /-- REPORT.FETCH (R196): the number still queued and the reports removed, oldest first. -/
  | reports (remaining : Nat) (removed : List Stamped)
  /-- SESSION.INFO (R37): the record and the number outstanding. -/
  | sessionInfo (r : Session) (outstanding : Nat)
  | darkList (slots : List SlotReply)
  /-- DEFECT.ADD (R77). -/
  | defectAdd (added present notAdded : Nat)
  /-- DEFECT.REMOVE (R78). -/
  | defectRemove (removed absent : Nat)
  /-- DEFECT.CLEAR (R79). -/
  | defectClear (removed : Nat)
  /-- DEFECT.LIST (R80): the list length, start, and the entries as pixels. -/
  | defectList (length start : Nat) (entries : List (Nat × Nat))
  | guides (entries : List (Option Guide))
  | candidates (records : List Candidate)
  | tracker (t : Tracker)
  /-- REGION.LIST (R139): occupied entries with their index, and the tile counts SKY, GROUND, HORIZON, EXCLUDE. -/
  | regions (entries : List (Nat × Region)) (sky ground horizon exclude : Nat)
  | totals (t : Totals)
  /-- TILE.STATUS (R160). -/
  | tileStatus (tile : Nat) (sky ground : LayerReply)
  /-- OUTPUT.READ answered NOT_READY (R172): the buffer's state with the render number and kind unless EMPTY. -/
  | notReady (rendering : Option (Bool × Nat × RenderKind))
  /-- OUTPUT.READ answered OK (R172, R201): tile index, tile column, tile row and record. -/
  | outputTile (tile tx ty : Nat) (t : OutTile)
  deriving DecidableEq, Repr

/-- A reply (R192, R202): the kind byte as echoed, the tag, the status and the payload. -/
structure Reply where
  kind : Byte
  tag : Byte
  status : Status
  body : Body
  deriving DecidableEq, Repr

/-- The reply slot (R190); a PENDING slot keeps the kind byte and tag of the reply being formed. -/
inductive Slot where
  | empty
  | pending (kind tag : Byte)
  | full (r : Reply)
  deriving DecidableEq, Repr

/-- The link controller (R190, R191, R195, R200). `ready` is no from the release of a hardware reset until every block has
reset; `shiftOut` is what the part shifted out in the latest chip-select assertion (log 24). -/
structure Link where
  slot : Slot
  reports : List Stamped
  overflow : Bool
  overrun : Bool
  ready : Bool
  shiftOut : List Byte
  deriving DecidableEq, Repr

/-! ## Time base and power controller (chapters 1 and 10) -/

/-- The session clock (R8) and a signalled progress transition not yet taken, with its clock value (R9, log 16). -/
structure TimeBase where
  clock : Time
  progressDue : Option Time
  deriving DecidableEq, Repr

/-- The power controller (R177). `waking` is yes while the wake from SLEEP is in progress (R186). -/
structure Power where
  state : PowerState
  pendingStandby : Bool
  napDelay : Nat
  napTimer : Nat
  waking : Bool
  deriving DecidableEq, Repr

/-! ## The machine -/

/-- The state of the part: `pending` is the queue of commands (first in, first out), `freeSeed` the model's counter for free
values, the rest the blocks of 00_scope's block diagram. -/
structure State where
  pending : List Instr
  freeSeed : Nat
  time : TimeBase
  power : Power
  link : Link
  /-- The memory controller's corrected-error count (R198). -/
  eccCorrected : Nat
  format : Format
  config : SessionConfig
  session : Session
  port : SensorPort
  /-- The three staging buffers; an absent entry is FREE (R48). -/
  staging : List (Option SubFrame)
  engine : Engine
  calib : Calibration
  stars : StarUnit
  tracker : Tracker
  /-- The region list, 64 entries (R128). -/
  regions : List (Option Region)
  stacker : Stacker
  finisher : Finisher
  deriving DecidableEq, Repr

/-- Reasons a command stops the machine. There are none: the spec answers every error with a status, a report or a flag. -/
inductive Fault where
  deriving DecidableEq, Repr

/-- Reasons a command has no meaning in the model. -/
inductive Refusal where
  /-- Raised by an arm of `exec` whose row has no meaning yet, with the row's mnemonic. Safe: the model stops. No arm
  raises it. -/
  | notModelled (mnemonic : String)
  deriving DecidableEq, Repr

/-! ## Reset values -/

/-- The tracker after a reset, for the mode, settings and configuration in force (R106). -/
def Tracker.afterReset (mode : TrackMode) (settings : TrackSettings) (config : SessionConfig) : Tracker where
  a := 0
  rem := 0
  tLast := 0
  rate := match mode with
    | .manual => settings.manualRate
    | .auto | .freerun | .holdover => config.nominalRate
  poleX := config.poleX
  poleY := config.poleY
  mode := mode
  state := match mode with
    | .auto | .freerun => .freerun
    | .holdover => .holdover
    | .manual => .manual
  lockRun := 0
  holdRun := 0
  history := []
  lolCount := 0
  lolLimit := false
  largestI := none
  smallestI := none
  largestP := none
  fewestValid := none
  settings := settings

/-- The sensor port after a reset (R61). -/
def SensorPort.afterReset : SensorPort := ⟨.skipping, none, 0, 0⟩

/-- The engine after a reset (R61). -/
def Engine.afterReset : Engine := ⟨none, none, [], {}, {}, {}, false⟩

/-- The part at the release of the reset input, every field at its hardware reset value: RDY is low until
HARDWARE_RESET_DONE (R200, log 1). The contents of the layers and of the dark scratch partition are unknown then and are
never read before they are written; they stand here as all zero (log 7). -/
def State.reset : State where
  pending := []
  freeSeed := 0
  time := ⟨0, none⟩
  power := ⟨.run, false, 0, 0, false⟩
  link := ⟨.empty, [], false, false, false, []⟩
  eccCorrected := 0
  format := Format.largest
  config := SessionConfig.default
  session := Session.cleared
  port := SensorPort.afterReset
  staging := List.replicate 3 none
  engine := Engine.afterReset
  calib := ⟨List.replicate 4 .free, none, 0, .nil, []⟩
  stars := ⟨List.replicate 12 none, [], 0, false, StarSettings.default⟩
  tracker := Tracker.afterReset .auto TrackSettings.default SessionConfig.default
  regions := List.replicate 64 none
  stacker := ⟨.nil, .nil, .nil, .nil, false, Totals.zero, StackSettings.default⟩
  finisher := ⟨.empty, .nil, 0, 256⟩

end Sys2Proof.Machine
end

