-- ==== Sys2Proof/Machine/Flags.lean ====
section
/-! DEFINITION. The lines and conditions the part derives from its state: RDY, ATTN, busy and idle, what is in processing and
what is outstanding, which staging buffer is the oldest. -/

namespace Sys2Proof.Machine

/-! ## Lines of the link (R190, R195, R200) -/

/-- RDY: low while a reply is PENDING, and from the release of a hardware reset until the part is ready (R190, R200). -/
def State.rdy (s : State) : Bool :=
  s.link.ready && (match s.link.slot with | .pending _ _ => false | .empty | .full _ => true)

/-- ATTN: high while the report queue holds a report (R195). -/
def State.attn (s : State) : Bool := !s.link.reports.isEmpty

/-! ## Staging buffers (R48, R49) -/

/-- The sub-frame in a staging buffer; absent when the buffer is FREE. -/
def State.buffer (s : State) (b : Nat) : Option SubFrame := s.staging.getD b none

/-- Write a staging buffer. -/
def State.setBuffer (s : State) (b : Nat) (f : Option SubFrame) : State :=
  { s with staging := s.staging.set b f }

/-- Change the sub-frame in a staging buffer; a FREE buffer stays as it is. -/
def State.modifyBuffer (s : State) (b : Nat) (g : SubFrame → SubFrame) : State :=
  match s.buffer b with
  | some f => s.setBuffer b (some (g f))
  | none => s

/-- The number of FREE buffers (R49). -/
def State.freeBuffers (s : State) : Nat := s.staging.countP fun b => b.isNone

/-- The FREE buffer of lowest index (R44). -/
def State.lowestFree (s : State) : Option Nat := [0, 1, 2].find? fun b => (s.buffer b).isNone

/-- The sub-frame is a light sub-frame in processing (R48). -/
def SubFrame.inProcessing (f : SubFrame) : Bool :=
  f.kind == .light &&
    (match f.stage with
     | .prepare | .measure | .track | .find | .stack => true
     | .arriving | .staged | .darkAdd => false)

/-- The sub-frame is an outstanding light sub-frame of the session (R23). -/
def SubFrame.outstanding (f : SubFrame) : Bool := f.kind == .light && !f.abandoned

/-- Some buffer holds a sub-frame with this property. -/
def State.anyFrame (s : State) (p : SubFrame → Bool) : Bool :=
  s.staging.any fun b => match b with | some f => p f | none => false

/-- A light sub-frame is in processing (R48, R56). -/
def State.lightInProcessing (s : State) : Bool := s.anyFrame SubFrame.inProcessing

/-- A light sub-frame that has not been abandoned is STAGED or ARRIVING (R58). -/
def State.lightWaiting (s : State) : Bool :=
  s.anyFrame fun f => f.outstanding && (f.stage == .staged || f.stage == .arriving)

/-- How many light sub-frames of the session are outstanding (R37). -/
def State.outstandingCount (s : State) : Nat :=
  s.staging.countP fun b => match b with | some f => f.outstanding | none => false

/-- Acceptance number `x` is older than `y`, by their difference modulo 2^32 (R44). -/
def olderThan (x y : BitVec 32) : Bool := (x - y).msb

/-- The oldest buffer, by acceptance, of those whose sub-frame has a property (R28, R49). -/
def State.oldest (s : State) (p : SubFrame → Bool) : Option Nat :=
  [0, 1, 2].find? fun b =>
    match s.buffer b with
    | none => false
    | some f => p f && !s.anyFrame fun g => p g && olderThan g.acceptance f.acceptance

/-- The STAGED buffer served next (R49). -/
def State.oldestStaged (s : State) : Option Nat := s.oldest fun f => f.stage == .staged

/-! ## Engine and port (R39, R50, R51) -/

/-- The port is idle: no buffer is ARRIVING (R39). -/
def State.portIdle (s : State) : Bool :=
  match s.port.state with
  | .waiting | .skipping => true
  | .capturing _ => false

/-- The slot is BUILDING or FINALIZING. -/
def DarkSlot.active : DarkSlot → Bool
  | .building | .finalizing => true
  | .free | .ready _ | .damaged _ => false

/-- A dark slot is BUILDING or FINALIZING (R20, R25, R64). -/
def State.buildActive (s : State) : Bool := s.calib.slots.any DarkSlot.active

/-- A dark slot is FINALIZING: its finalization is waiting or in flight (R68). -/
def State.finalizing (s : State) : Bool := s.calib.slots.any fun d => d == .finalizing

/-- A dark slot is BUILDING. -/
def State.building (s : State) : Bool := s.calib.slots.any fun d => d == .building

/-- A dark build is accepting frames (R41). -/
def State.buildAccepting (s : State) : Bool :=
  match s.calib.build with
  | some b => b.accepting
  | none => false

/-- A render tile is waiting: a render is in progress with a tile left (R163). -/
def State.nextRenderTile (s : State) : Option Nat :=
  match s.finisher.output with
  | .rendering r => r.next
  | .empty | .ready _ => none

/-- The engine is busy: it holds a job (R51). -/
def State.engineBusy (s : State) : Bool := s.engine.job.isSome

/-- The engine is idle: it holds no job and none of the four kinds of work is waiting (R51). -/
def State.engineIdle (s : State) : Bool :=
  s.engine.job.isNone && s.oldestStaged.isNone && !s.finalizing && s.engine.tileRequest.isNone &&
    s.nextRenderTile.isNone

/-- The dark slots in use by the light sub-frame in processing (R72). -/
def DarkChoice.slots : DarkChoice → List Nat
  | .none => []
  | .one a => [a]
  | .two a b _ _ => [a, b]

/-- A dark slot is in use by the light sub-frame in processing (R72). -/
def State.slotInUse (s : State) (slot : Nat) : Bool :=
  s.anyFrame fun f => f.inProcessing && f.darkChoice.slots.contains slot

/-! ## Sticky flags -/

/-- LOL_LIMIT after an event that leaves the count as it is: set when the count is above the threshold (R117). -/
def Tracker.raiseLol (t : Tracker) : Tracker :=
  { t with lolLimit := t.lolLimit || decide (t.settings.lolThreshold < t.lolCount) }

/-- LOL_LIMIT after a read: cleared when the count is at or below the threshold (R117). -/
def Tracker.readLol (t : Tracker) : Tracker :=
  { t with lolLimit := t.lolLimit && decide (t.settings.lolThreshold < t.lolCount) }

end Sys2Proof.Machine
end

