-- ==== Sys2Proof/Machine/Plane.lean ====
section
/-! DEFINITION. Reading and writing a `Plane`, its one canonical form, and a bounded loop over indices. -/

namespace Sys2Proof.Plane

/-- The digits of `k`, lowest first, ending in a one (none for 0). `fuel` bounds the recursion; `k` digits always suffice. -/
def digitsAux : Nat → Nat → List Bool
  | 0, _ => []
  | fuel + 1, k => if k = 0 then [] else (k % 2 == 1) :: digitsAux fuel (k / 2)

/-- The place of index `k` in the trie. -/
def digits (k : Nat) : List Bool := digitsAux k k

/-- What is stored at a place. -/
def find {α : Type} : Plane α → List Bool → Option α
  | .nil, _ => none
  | .node here _ _, [] => here
  | .node _ even odd, b :: bs => if b then find odd bs else find even bs

/-- A node that is `nil` when nothing is stored in it. -/
def mk {α : Type} (here : Option α) (even odd : Plane α) : Plane α :=
  match here, even, odd with
  | none, .nil, .nil => .nil
  | h, e, o => .node h e o

/-- Store `v` (or nothing) at a place. -/
def store {α : Type} (v : Option α) : List Bool → Plane α → Plane α
  | [], .nil => mk v .nil .nil
  | [], .node _ even odd => mk v even odd
  | b :: bs, .nil => if b then mk none .nil (store v bs .nil) else mk none (store v bs .nil) .nil
  | b :: bs, .node here even odd =>
    if b then mk here even (store v bs odd) else mk here (store v bs even) odd

/-- The record at index `k`; `d` is the default record. -/
def get {α : Type} (d : α) (p : Plane α) (k : Nat) : α := (p.find (digits k)).getD d

/-- Write the record at index `k`. Writing the default record removes the entry, so that the canonical form is kept. -/
def set {α : Type} [DecidableEq α] (d : α) (p : Plane α) (k : Nat) (v : α) : Plane α :=
  p.store (if v = d then none else some v) (digits k)

/-- The canonical form below a node: nothing stored is the default record, no node is empty, and nothing is stored at a place
whose last digit is a zero (`here` says whether the place itself may hold something). -/
def wfAt {α : Type} [DecidableEq α] (d : α) : Bool → Plane α → Bool
  | _, .nil => true
  | may, .node here even odd =>
    (match here with | none => true | some v => may && decide (v ≠ d)) &&
    !(here.isNone && (match even, odd with | .nil, .nil => true | _, _ => false)) &&
    wfAt d false even && wfAt d true odd

/-- The one canonical form of a plane with default record `d`. -/
def wf {α : Type} [DecidableEq α] (d : α) (p : Plane α) : Bool := wfAt d true p

/-- The indices stored in a plane, each once, with their records (for a reader that has no need of the default). -/
def entries {α : Type} : Plane α → List (Nat × α)
  | .nil => []
  | .node here even odd =>
    (match here with | none => [] | some v => [(0, v)]) ++
    (entries even).map (fun e => (2 * e.1, e.2)) ++ (entries odd).map (fun e => (2 * e.1 + 1, e.2))

end Sys2Proof.Plane

namespace Sys2Proof.Machine

/-- Do `f i` for `i` from `start` upward, `n` times. -/
def loop {σ : Type} (f : Nat → σ → σ) : Nat → Nat → σ → σ
  | 0, _, s => s
  | n + 1, i, s => loop f n (i + 1) (f i s)

end Sys2Proof.Machine
end

