-- ==== Sys2Proof/Machine/Geometry.lean ====
section
/-! DEFINITION. The coordinate system: cells, tiles, the frame, rotation about the pole (chapter 1), and the tile classes and
routing that the region list gives (chapter 7). -/

namespace Sys2Proof.Machine

/-! ## The frame (R2 to R5) -/

/-- Cells across (R3). -/
def Format.cellsAcross (f : Format) : Nat := f.width / 2

/-- Cells down (R3). -/
def Format.cellsDown (f : Format) : Nat := f.height / 2

/-- Tiles across (R5). -/
def Format.tilesAcross (f : Format) : Nat := f.width / 64

/-- Tiles down (R5). -/
def Format.tilesDown (f : Format) : Nat := f.height / 64

/-- The number of tiles (R5). -/
def Format.tileCount (f : Format) : Nat := f.tilesAcross * f.tilesDown

/-- The number of pixels. -/
def Format.pixelCount (f : Format) : Nat := f.width * f.height

/-- A cell inside the frame (R3). -/
def Format.hasCell (f : Format) (i j : Int) : Bool :=
  0 ≤ i && i < f.cellsAcross && 0 ≤ j && j < f.cellsDown

/-- A pixel inside the frame (R3). -/
def Format.hasPixel (f : Format) (px py : Int) : Bool :=
  0 ≤ px && px < f.width && 0 ≤ py && py < f.height

/-- The pixel index of R75. -/
def Format.pixelIndex (f : Format) (px py : Nat) : Nat := py * f.width + px

/-- The tile index of the tile that holds a pixel (R5). -/
def Format.tileOfPixel (f : Format) (px py : Nat) : Nat := py / 64 * f.tilesAcross + px / 64

/-- The tile index of the tile that holds the pixel with this pixel index. -/
def Format.tileOfIndex (f : Format) (i : Nat) : Nat := f.tileOfPixel (i % f.width) (i / f.width)

/-- The address of a pixel's accumulator record in its layer: tiles in index order, local raster order within (R141). -/
def Format.recordAddress (f : Format) (px py : Nat) : Nat :=
  f.tileOfPixel px py * 4096 + (py % 64) * 64 + px % 64

/-- The pixel whose accumulator record has this address (R141). -/
def Format.pixelOfRecord (f : Format) (a : Nat) : Nat × Nat :=
  let tile := a / 4096
  let l := a % 4096
  (tile % f.tilesAcross * 64 + l % 64, tile / f.tilesAcross * 64 + l / 64)

/-- A format that SENSOR.FORMAT can set (R19). -/
def Format.legal (f : Format) : Bool :=
  f.width % 64 == 0 && f.height % 64 == 0 && 1024 ≤ f.width && f.width ≤ 9600 && 1024 ≤ f.height && f.height ≤ 6400

/-- The cell that contains a position in cs (R4). -/
def cellOf (x y : Int) : Int × Int := (floorQ x 16, floorQ y 16)

/-- The centre of a cell in cs (R4). -/
def cellCentre (i j : Int) : Int × Int := (16 * i + 8, 16 * j + 8)

/-- The four pixels of a cell in Bayer order (R2). -/
def cellPixels (i j : Int) : List (Int × Int) :=
  [(2 * i, 2 * j), (2 * i + 1, 2 * j), (2 * i, 2 * j + 1), (2 * i + 1, 2 * j + 1)]

/-! ## Rotation (R17, R18) -/

/-- A position rotated about the pole (px, py) by the angle with pair (s, c) (R17). -/
def rotate (px py s c x y : Int) : Int × Int :=
  let dx := x - px
  let dy := y - py
  (px + nearestAway (dx * c - dy * s) trigScale, py + nearestAway (dx * s + dy * c) trigScale)

/-- De-rotation: rotation by the pair of the negated angle (R17). -/
def derotate (px py s c x y : Int) : Int × Int := rotate px py (-s) c x y

/-- A position rotated about the tracker's pole. -/
def Tracker.rotate (t : Tracker) (s c : Int) (p : Int × Int) : Int × Int :=
  Machine.rotate t.poleX t.poleY s c p.1 p.2

/-- A position de-rotated about the tracker's pole. -/
def Tracker.derotate (t : Tracker) (s c : Int) (p : Int × Int) : Int × Int :=
  Machine.derotate t.poleX t.poleY s c p.1 p.2

/-- The square of a position's distance from the tracker's pole (R86). -/
def Tracker.poleDistanceSq (t : Tracker) (p : Int × Int) : Int :=
  (p.1 - t.poleX) * (p.1 - t.poleX) + (p.2 - t.poleY) * (p.2 - t.poleY)

/-- The least squared distance from the pole: 25,600 cs (R86, R88). -/
def minPoleDistanceSq : Int := 655360000

/-- Two positions are *near* (R86). -/
def near (ax ay bx b_y : Int) : Bool :=
  (ax - bx).natAbs ≤ 128 && (ay - b_y).natAbs ≤ 128

/-! ## Tile classes (R129) -/

/-- An entry covers a tile (R128). -/
def Region.covers (r : Region) (col row : Nat) : Bool :=
  r.tx ≤ col && col < r.tx + r.tw && r.ty ≤ row && row < r.ty + r.th

/-- The class that one entry of the list gives a tile, if it is occupied and covers it. -/
def regionClassAt (col row : Nat) (e : Option Region) : Option TileClass :=
  match e with
  | some r => if r.covers col row then some r.cls else none
  | none => none

/-- The class of a tile: that of the covering entry of lowest index, else SKY (R129). -/
def tileClassAt (regions : List (Option Region)) (col row : Nat) : TileClass :=
  (regions.findSome? (regionClassAt col row)).getD .sky

/-- The class of a tile by its index (R129, R130: the derived class map, log 23). -/
def tileClass (regions : List (Option Region)) (f : Format) (tile : Nat) : TileClass :=
  tileClassAt regions (tile % f.tilesAcross) (tile / f.tilesAcross)

/-- The number of tiles of the format whose class satisfies `p` (R139). -/
def countTiles (regions : List (Option Region)) (f : Format) (p : TileClass → Bool) : Nat :=
  loop (fun t n => if p (tileClass regions f t) then n + 1 else n) f.tileCount 0 0

/-! ## Routing (R131, R132) -/

/-- Where a pixel's samples go (R131). -/
inductive Route where
  | sky | ground | neither
  deriving DecidableEq, Repr

/-- The cut height at local column `x` (R132). -/
def cutHeight (yl yr x : Nat) : Int := yl + floorQ (((yr : Int) - yl) * x) 63

/-- The routing of a local pixel of a tile of a class (R131, R132). -/
def routeInTile (c : TileClass) (x y : Nat) : Route :=
  match c with
  | .sky => .sky
  | .ground => .ground
  | .horizon yl yr => if (y : Int) < cutHeight yl yr x then .sky else .ground
  | .exclude => .neither

/-- The routing of a pixel position; a pixel outside the frame is routed to neither layer (R131). -/
def routePixel (regions : List (Option Region)) (f : Format) (px py : Int) : Route :=
  if f.hasPixel px py then
    let x := px.toNat
    let y := py.toNat
    routeInTile (tileClassAt regions (x / 64) (y / 64)) (x % 64) (y % 64)
  else .neither

/-- A cell is sky-routed when all four of its pixels are (R131). -/
def cellSkyRouted (regions : List (Option Region)) (f : Format) (i j : Int) : Bool :=
  (cellPixels i j).all fun p => routePixel regions f p.1 p.2 == .sky

/-! ## Star windows (R81) -/

/-- The 225 cells of the window centred on a cell, in raster order. -/
def windowCells (cx cy : Int) : List (Int × Int) :=
  (List.range 225).map fun k => (cx - 7 + (k % 15 : Nat), cy - 7 + (k / 15 : Nat))

/-- Whether the window cell with raster index `k` is a border cell. -/
def isBorder (k : Nat) : Bool := k % 15 == 0 || k % 15 == 14 || k / 15 == 0 || k / 15 == 14

/-- The window centred on a cell is placeable (R81). -/
def placeable (regions : List (Option Region)) (f : Format) (cx cy : Int) : Bool :=
  (windowCells cx cy).all fun c => f.hasCell c.1 c.2 && cellSkyRouted regions f c.1 c.2

end Sys2Proof.Machine
end

