-- ==== Sys2Proof/Machine/Ops.lean ====
section
/-! DEFINITION. Operations the blocks share: posting a report, changing the session state, drop bookkeeping, the reference
role, tile status and layer records, counting corrected memory errors. -/

namespace Sys2Proof.Machine

/-! ## Reports (R195) -/

/-- The most reports the queue holds (R195). -/
def queueCapacity : Nat := 32

/-- Post a report: it joins the end of the queue stamped with the session clock, or is discarded with REPORT_OVERFLOW when
the queue is full (R195). -/
def post (r : Report) (s : State) : State :=
  if s.link.reports.length < queueCapacity then
    { s with link := { s.link with reports := s.link.reports ++ [⟨s.time.clock, r⟩] } }
  else { s with link := { s.link with overflow := true } }

/-- Count corrected memory errors, stopping at 65,535 (R154, R198). -/
def countCorrected (e : Ecc) (s : State) : State :=
  { s with eccCorrected := min (s.eccCorrected + e.corrected) 65535 }

/-- A read finds a word uncorrectable (log 6). -/
def readFails (e : Ecc) (site : ReadSite) (w : MemWord) : Bool := e.uncorrectable.contains ⟨site, w⟩

/-! ## Session (R23, R24, R29) -/

/-- Change the session state and post its report (R24). -/
def changeSession (st : SessionState) (reason : SessionReason) (s : State) : State :=
  post (.session st reason) { s with session := { s.session with state := st } }

/-- The session is in a state in which a light header dropped at the port is counted (R29). -/
def SessionState.countsDrops : SessionState → Bool
  | .opening | .armed | .integrating | .paused | .closing => true
  | .idle | .closed => false

/-- CLOSING ends when no light sub-frame is outstanding (R32). -/
def testDrained (s : State) : State :=
  if s.session.state = .closing ∧ s.outstandingCount = 0 then changeSession .closed .drained s else s

/-- Enter CLOSING, or CLOSED when no light sub-frame is outstanding, with the close's own reason (R24, R30, R31, R35). -/
def closeSession (reason : SessionReason) (s : State) : State :=
  changeSession (if s.outstandingCount = 0 then .closed else .closing) reason s

/-- Elapsed time of a t_mid: t_mid − t_ref modulo 2^32 (R13); 0 where there is no reference (log 27). -/
def State.elapsedOf (s : State) (tMid : Time) : Time :=
  match s.session.tRef with
  | some t => tMid - t
  | none => 0

/-! ## Drops (R43) -/

/-- The drop bookkeeping: report, DROPPED flag with its capture, drop total, and the session's count when it counts
(R43, R29). -/
def dropBookkeeping (sequence : Nat) (reason : DropReason) (m : Option Malformation) (counts : Bool) (s : State) : State :=
  let s := post (.subframeDropped sequence reason m) s
  let s := { s with port := { s.port with dropped := some (sequence, reason), dropTotal := s.port.dropTotal + 1 } }
  if counts then { s with session := { s.session with dropped := satAdd s.session.dropped 1 } } else s

/-! ## The reference role (R27, R28) -/

/-- Give the reference role to the sub-frame in a buffer: its record is marked, the marker names it and t_ref becomes its
t_mid (R27, R28). -/
def makeReference (b : Nat) (s : State) : State :=
  match s.buffer b with
  | some f =>
    let s := s.setBuffer b (some { f with reference := true })
    { s with session := { s.session with tRef := some f.tMid, refMark := some b } }
  | none => s

/-- The reference has left the staging pool before completing TRACK (R28): the oldest outstanding light sub-frame takes the
role, or the role is lost; then INTEGRATING returns to ARMED. (CLOSING is ended by `testDrained`.) -/
def loseReference (s : State) : State :=
  match s.oldest SubFrame.outstanding with
  | some b => makeReference b s
  | none =>
    let s := { s with session := { s.session with tRef := none, refMark := none } }
    if s.session.state = .integrating then changeSession .armed .referenceLost s else s

/-! ## Layers (R140 to R142, R154) -/

/-- The cleared accumulator record (R26). -/
def Acc.zero : Acc := ⟨0, 0, false⟩

/-- A layer's records. -/
def Stacker.records (k : Stacker) : LayerId → Plane Acc
  | .sky => k.sky
  | .ground => k.ground

/-- The record of a layer at a record address (R141). -/
def Stacker.record (k : Stacker) (l : LayerId) (a : Nat) : Acc := (k.records l).get Acc.zero a

/-- Write the record of a layer at a record address. -/
def Stacker.setRecord (k : Stacker) (l : LayerId) (a : Nat) (r : Acc) : Stacker :=
  match l with
  | .sky => { k with sky := k.sky.set Acc.zero a r }
  | .ground => { k with ground := k.ground.set Acc.zero a r }

/-- A layer's tile status as held. -/
def Stacker.statusPlane (k : Stacker) : LayerId → Plane TileStatus
  | .sky => k.skyStatus
  | .ground => k.groundStatus

/-- The status of a tile in a layer; while it is undefined (R142) it is a free value (log 8). -/
def State.tileStatusOf (s : State) (l : LayerId) (tile : Nat) : TileStatus :=
  if s.stacker.statusDefined then (s.stacker.statusPlane l).get .normal tile
  else match Config.undefinedTileStatus s.freeSeed (l == .sky) tile with
    | none => .normal
    | some q => .damaged q

/-- The tile is DAMAGED in a layer (R142). -/
def State.tileDamaged (s : State) (l : LayerId) (tile : Nat) : Bool :=
  match s.tileStatusOf l tile with
  | .normal => false
  | .damaged _ => true

/-- The partition code of a layer (R206). -/
def LayerId.partition : LayerId → Partition
  | .sky => .skyLayer
  | .ground => .groundLayer

/-- An uncorrectable layer word of a tile: a NORMAL tile becomes DAMAGED with the damage sequence, the layer's count of
damaged tiles rises and a MEMORY report is posted (R154). -/
def damageTile (l : LayerId) (tile : Nat) (sequence : Option Nat) (s : State) : State :=
  if s.tileDamaged l tile then s
  else
    let k := s.stacker
    let k := match l with
      | .sky => { k with skyStatus := k.skyStatus.set .normal tile (.damaged sequence),
                         totals := { k.totals with damagedSky := k.totals.damagedSky + 1 } }
      | .ground => { k with groundStatus := k.groundStatus.set .normal tile (.damaged sequence),
                            totals := { k.totals with damagedGround := k.totals.damagedGround + 1 } }
    post (.memory l.partition none tile) { s with stacker := k }

/-- The two 64-bit words that hold the six bytes of the record at an address (R141). -/
def recordWords (a : Nat) : Nat × Nat := (a * 6 / 8, (a * 6 + 5) / 8)

/-- A word of a layer partition. -/
def LayerId.word (l : LayerId) (w : Nat) : MemWord :=
  match l with
  | .sky => .sky w
  | .ground => .ground w

/-- A read of the record at an address fails: one of its words is uncorrectable (R154). -/
def recordFails (e : Ecc) (site : ReadSite) (l : LayerId) (a : Nat) : Bool :=
  readFails e site (l.word (recordWords a).1) || readFails e site (l.word (recordWords a).2)

/-- The records of which a layer word holds a part: 8 bytes to the word, 6 to the record (R141). -/
def recordsOfWord (w : Nat) : List Nat := [w * 8 / 6, (w * 8 + 7) / 6]

/-- The uncorrectable words among those of the record at an address. -/
def failingWords (e : Ecc) (site : ReadSite) (l : LayerId) (a : Nat) : List Nat :=
  [(recordWords a).1, (recordWords a).2].filter fun w => readFails e site (l.word w)

/-- What a record of an uncorrectable word holds: unknown (R154), a free value (log 35). -/
def unknownRecord (seed : Nat) (l : LayerId) (a : Nat) : Acc :=
  let x := Config.lostRecord seed (l == .sky) a
  ⟨x.1.toInt, x.2.1, x.2.2⟩

/-- Records of a layer become unknown (R154). -/
def Stacker.loseRecords (seed : Nat) (l : LayerId) (as : List Nat) (k : Stacker) : Stacker :=
  as.foldl (fun k a => k.setRecord l a (unknownRecord seed l a)) k

/-- The read of the record at an address fails: its tile is damaged, and the records held in each failing word are unknown from
then on (R154, log 35). -/
def damageRecord (e : Ecc) (site : ReadSite) (l : LayerId) (a : Nat) (sequence : Option Nat) (s : State) : State :=
  let s := damageTile l (a / 4096) sequence s
  { s with
    freeSeed := s.freeSeed + 1
    stacker := s.stacker.loseRecords s.freeSeed l ((failingWords e site l a).flatMap recordsOfWord) }

/-! ## Output buffer (R161, R168) -/

/-- Return the output buffer to EMPTY with every ready flag cleared; a render tile in flight is abandoned (R168). -/
def emptyOutput (s : State) : State :=
  let s := { s with finisher := { s.finisher with output := .empty, tiles := .nil } }
  match s.engine.job with
  | some (.renderTile _ _ _ _) => { s with engine := { s.engine with job := none } }
  | _ => s

/-! ## Guides (R85, R87) -/

/-- The entry of a guide slot. -/
def StarUnit.guide (u : StarUnit) (slot : Nat) : Option Guide := u.guides.getD slot none

/-- Write the entry of a guide slot. -/
def State.setGuide (s : State) (slot : Nat) (g : Option Guide) : State :=
  { s with stars := { s.stars with guides := s.stars.guides.set slot g } }

/-- Retire an entry: it becomes EMPTY and a GUIDE report is posted (R87). -/
def retireGuide (slot : Nat) (reason : GuideReason) (s : State) : State :=
  post (.guide (some slot) .retired (some reason)) (s.setGuide slot none)

/-- The number of ACTIVE entries (R85). -/
def StarUnit.activeCount (u : StarUnit) : Nat :=
  u.guides.countP fun g => match g with | some g => g.state == .active | none => false

/-- The number of occupied entries (R85). -/
def StarUnit.occupiedCount (u : StarUnit) : Nat := u.guides.countP fun g => g.isSome

/-- The EMPTY slot of lowest index (R96, R99). -/
def StarUnit.lowestEmpty (u : StarUnit) : Option Nat := (List.range 12).find? fun k => (u.guide k).isNone

/-! ## Dark slots (R62, R74) -/

/-- The state of a dark slot; a slot index above 3 has none and reads as FREE. -/
def Calibration.slot (c : Calibration) (k : Nat) : DarkSlot := c.slots.getD k .free

/-- Write a dark slot. -/
def State.setSlot (s : State) (k : Nat) (d : DarkSlot) : State :=
  { s with calib := { s.calib with slots := s.calib.slots.set k d } }

/-- An uncorrectable word of a dark plane: a READY slot becomes DAMAGED and a MEMORY report is posted; a DAMAGED one stays
(R74). -/
def damageDark (slot tile : Nat) (s : State) : State :=
  match s.calib.slot slot with
  | .ready d => post (.memory .darkLibrary (some slot) tile) (s.setSlot slot (.damaged d))
  | .free | .building | .finalizing | .damaged _ => s

/-- An uncorrectable staging word of a light sub-frame: STAGING_ERROR is set and one MEMORY report is posted for the
sub-frame (R59). -/
def noteStagingError (b tile : Nat) (s : State) : State :=
  match s.buffer b with
  | some f =>
    if f.stagingError then s
    else post (.memory .staging none tile) (s.setBuffer b (some { f with stagingError := true }))
  | none => s

end Sys2Proof.Machine
end

