-- ==== Sys2Proof/Machine/Calibration.lean ====
section
/-! DEFINITION. Calibration (chapter 4): the dark choice, calibrated values, reading pixels of a sub-frame with the memory
errors met, and the defect list. -/

namespace Sys2Proof.Machine

/-! ## The defect list (R75) -/

/-- The most entries the defect list holds (R75). -/
def defectCapacity : Nat := 4096

/-- Insert a pixel index in ascending order, passing over one that is present (R75). -/
def insertDefect (i : Nat) : List Nat → List Nat
  | [] => [i]
  | d :: ds => if i < d then i :: d :: ds else if i = d then d :: ds else d :: insertDefect i ds

/-- What became of a pixel offered to the list. -/
inductive DefectOffer where
  | added | present | notAdded
  deriving DecidableEq, Repr

/-- Offer a pixel index to the list: present, inserted while the list is not full, or not added (R68, R77). -/
def offerDefect (i : Nat) (ds : List Nat) : DefectOffer × List Nat :=
  if ds.contains i then (.present, ds)
  else if ds.length < defectCapacity then (.added, insertDefect i ds)
  else (.notAdded, ds)

/-! ## The dark choice (R72) -/

/-- An eligible slot: its number and temperature. -/
def eligibleSlot (config : SessionConfig) (k : Nat) (d : DarkSlot) : Option (Nat × Int) :=
  match d with
  | .ready d => if d.exposureMs = config.exposureMs then some (k, d.temperature) else none
  | .free | .building | .finalizing | .damaged _ => none

/-- The eligible slots in slot order: READY with the session's exposure (R72). -/
def eligibleSlots (config : SessionConfig) (slots : List DarkSlot) : List (Nat × Int) :=
  (slots.zipIdx.map fun p => eligibleSlot config p.2 p.1).filterMap id

/-- The first slot of a list that no other beats; the earlier stands where two are equal (R72). -/
def pickSlot (better : Int → Int → Bool) : List (Nat × Int) → Option (Nat × Int)
  | [] => none
  | p :: ps =>
    match pickSlot better ps with
    | none => some p
    | some q => if better q.2 p.2 then some q else some p

/-- The eligible slot with the lowest temperature. -/
def coldest (ps : List (Nat × Int)) : Option (Nat × Int) := pickSlot (fun a b => a < b) ps

/-- The eligible slot with the highest temperature. -/
def warmest (ps : List (Nat × Int)) : Option (Nat × Int) := pickSlot (fun a b => b < a) ps

/-- The dark choice for a temperature (R72). -/
def chooseDark (ps : List (Nat × Int)) (t : Int) : DarkChoice :=
  match coldest ps, warmest ps with
  | some lo, some hi =>
    if t ≤ lo.2 then .one lo.1
    else if hi.2 ≤ t then .one hi.1
    else
      match warmest (ps.filter fun p => p.2 ≤ t), coldest (ps.filter fun p => t < p.2) with
      | some a, some b => .two a.1 b.1 (t - a.2) (b.2 - a.2)
      | _, _ => .none
  | _, _ => .none

/-! ## Calibrated values (R1, R73) -/

/-- The plane of a slot that has one. -/
def DarkSlot.plane : DarkSlot → Plane Half
  | .ready d | .damaged d => d.plane
  | .free | .building | .finalizing => .nil

/-- A slot's plane value for a pixel index, in qDN. -/
def Calibration.planeValue (c : Calibration) (slot i : Nat) : Int := ((c.slot slot).plane.get 0 i).toNat

/-- The dark value of a pixel for a dark choice (R73). -/
def Calibration.darkValue (c : Calibration) (choice : DarkChoice) (i : Nat) : Int :=
  match choice with
  | .none => 0
  | .one a => c.planeValue a i
  | .two a b num den => c.planeValue a i + nearestAway ((c.planeValue b i - c.planeValue a i) * num) den

/-- The raw value of a sample: the word as received, taken as 16,383 when above (R1). -/
def rawValue (w : Half) : Nat := min w.toNat 16383

/-- The raw value of the sub-frame's sample at a pixel index. -/
def SubFrame.raw (f : SubFrame) (i : Nat) : Nat := rawValue (f.samples.get 0 i)

/-- A calibrated value (R73), in qDN. -/
def calibrated (raw : Nat) (d : Int) : Int := 4 * raw - d

/-- A raw value at the white level (R1). -/
def SessionConfig.atWhite (c : SessionConfig) (raw : Nat) : Bool := c.whiteLevel ≤ raw

/-- The slots of a dark choice whose word for a pixel index this read finds uncorrectable (R74). With two slots both words are
read, slot A's before slot B's, and both may fail (DESIGN CHOICE, log 11). -/
def darkFails (e : Ecc) (site : ReadSite) (choice : DarkChoice) (i : Nat) : List Nat :=
  choice.slots.filter fun k => readFails e site (.dark k (i / 4))

/-! ## Reading pixels for a window or a scan cell -/

/-- What a read of some pixels gives: for each pixel its raw and calibrated value, or nothing for a defect pixel; the failed
dark reads (slot, tile) in order; and the tile of the first uncorrectable staging word, where reading stops. -/
structure Reads where
  views : List (Option (Nat × Int))
  darkErrors : List (Nat × Nat)
  stagingError : Option Nat
  deriving DecidableEq, Repr

/-- Read pixels in the order given. At each, the staging word is read and then the dark values (DESIGN CHOICE, log 11); a
defect pixel has no value (R73, R74). R73, R81 and R93 do not say whether the words of a pixel already in the defect list are
read: here they are, as those of every pixel, so an error in one is met (DESIGN CHOICE, log 11). A word that serves several
pixels is read at one site, so it fails for all of them or for none (DESIGN CHOICE, log 6). -/
def readPixels (s : State) (f : SubFrame) (e : Ecc) (site : ReadSite) : List (Nat × Nat) → Reads
  | [] => ⟨[], [], none⟩
  | (px, py) :: rest =>
    let i := s.format.pixelIndex px py
    let tile := s.format.tileOfPixel px py
    if readFails e site (.staging (i / 4)) then ⟨[], [], some tile⟩
    else
      let failed := darkFails e site f.darkChoice i
      let view :=
        if failed.isEmpty && !s.calib.defects.contains i then
          some (f.raw i, calibrated (f.raw i) (s.calib.darkValue f.darkChoice i))
        else none
      let more := readPixels s f e site rest
      ⟨view :: more.views, failed.map (fun k => (k, tile)) ++ more.darkErrors, more.stagingError⟩

/-- The pixels of cells, for cells inside the frame, in the order in which they are read: cell by cell in the order given, the
four pixels of a cell in Bayer order (R81 gives no order: DESIGN CHOICE, log 11). -/
def pixelsOfCells (cells : List (Int × Int)) : List (Nat × Nat) :=
  cells.flatMap fun c => (cellPixels c.1 c.2).map fun p => (p.1.toNat, p.2.toNat)

/-- A cell as read: its value (none for a defect cell, R81) and the raw values of its pixels that are not defect pixels. -/
structure CellRead where
  value : Option Int
  raws : List Nat
  deriving DecidableEq, Repr

/-- The value of a cell (R2, R81): the sum of its four calibrated values, none if one of them is a defect pixel. -/
def cellRead (views : List (Option (Nat × Int))) : CellRead :=
  { value := if views.all Option.isSome then some ((views.filterMap id).map Prod.snd).sum else none
    raws := (views.filterMap id).map Prod.fst }

/-- Pixels in Bayer order grouped into cells. -/
def cellsOf : List (Option (Nat × Int)) → List CellRead
  | a :: b :: c :: d :: rest => cellRead [a, b, c, d] :: cellsOf rest
  | _ => []

/-- The effects of the dark read errors of a read, in order (R74). -/
def applyDarkErrors (errors : List (Nat × Nat)) (s : State) : State :=
  errors.foldl (fun s p => damageDark p.1 p.2 s) s

end Sys2Proof.Machine
end

