-- ==== Sys2Proof/Machine/Stars.lean ====
section
/-! DEFINITION. The star unit's computations (chapter 5): window measurement, tangential error, admission tests, MEASURE, the
guide outcomes of TRACK, the finder, the candidate list and refill. -/

namespace Sys2Proof.Machine

/-! ## Window measurement (R82, R83) -/

/-- The background from the border cells of a window, floor of their mean without the defect cells (R82). -/
def backgroundOf (border : List CellRead) : Option Int :=
  let values := border.filterMap CellRead.value
  if values.isEmpty then none else some (floorQ values.sum values.length)

/-- The border cells of a window. -/
def borderCells {α : Type} (cells : List α) : List α :=
  (cells.zipIdx.filter fun c => isBorder c.2).map Prod.fst

/-- A cell's weight; a defect cell takes the value of the background (R82). -/
def weight (bg threshold : Int) (c : CellRead) : Int :=
  max 0 (c.value.getD bg - bg - threshold)

/-- The raster index of the highest weight, the first among equals (R82). -/
def peakIndex (ws : List Int) : Nat :=
  (ws.zipIdx.foldl (fun (best : Int × Nat) w => if best.1 < w.1 then w else best) (-1, 0)).2

/-- The window cells within one cell of the window cell `k` in each axis. -/
def neighbourhood (k : Nat) : List Nat :=
  (List.range 225).filter fun m =>
    ((m % 15 : Int) - (k % 15 : Int)).natAbs ≤ 1 && ((m / 15 : Int) - (k / 15 : Int)).natAbs ≤ 1

/-- The sum of w·(i − 7) over the window, `coord` giving i (or j) from the raster index (R83). -/
def moment (coord : Nat → Nat) (ws : List Int) : Int :=
  (ws.zipIdx.map fun w => w.1 * ((coord w.2 : Int) - 7)).sum

/-- The measurement of a window of 225 cells centred on cell (cx, cy) (R82, R83). -/
def measureWindow (settings : StarSettings) (config : SessionConfig) (cx cy : Int) (cells : List CellRead) :
    Measurement :=
  match backgroundOf (borderCells cells) with
  | none => ⟨.notFound, none, 0, none⟩
  | some bg =>
    let ws := cells.map (weight bg settings.starThreshold)
    let flux := ws.sum
    if flux < settings.minFlux then ⟨.notFound, some bg, flux, none⟩
    else
      let near := (neighbourhood (peakIndex ws)).flatMap fun m => ((cells[m]?).map CellRead.raws).getD []
      if near.any config.atWhite then ⟨.saturated, some bg, flux, none⟩
      else
        let x := 16 * cx + 8 + nearestAway (16 * moment (fun k => k % 15) ws) flux
        let y := 16 * cy + 8 + nearestAway (16 * moment (fun k => k / 15) ws) flux
        ⟨.found, some bg, flux, some (x, y)⟩

/-- The tangential error of a guide found at `m` with predicted position `p` (R84). -/
def tangentialError (t : Tracker) (p m : Int × Int) : Int :=
  let ax := p.1 - t.poleX
  let ay := p.2 - t.poleY
  let dx := m.1 - p.1
  let dy := m.2 - p.2
  nearestAway (1000000000 * (ax * dy - ay * dx)) (ax * ax + ay * ay)

/-! ## Admission tests (R86) -/

/-- A position is near the reference position of an occupied entry other than `except`. -/
def StarUnit.crowded (u : StarUnit) (except : Option Nat) (x y : Int) : Bool :=
  (List.range 12).any fun k =>
    match u.guide k with
    | some g => except != some k && near x y g.refX g.refY
    | none => false

/-- A window centred on the cell that contains a position is placeable (R81, R86). -/
def State.windowPlaceable (s : State) (p : Int × Int) : Bool :=
  placeable s.regions s.format (cellOf p.1 p.2).1 (cellOf p.1 p.2).2

/-- The first admission test that a reference position fails at an angle pair (R86); none when it passes. -/
def admissionFailure (s : State) (sn cs : Int) (r : Int × Int) : Option GuideReason :=
  let p := s.tracker.rotate sn cs r
  if s.tracker.poleDistanceSq p < minPoleDistanceSq then some .radius
  else if !s.windowPlaceable p then some .window
  else if s.stars.crowded none r.1 r.2 then some .crowded
  else none

/-- A new PROBATION entry (R85). -/
def newGuide (r : Int × Int) (flux : Int) : Guide :=
  ⟨.probation, r.1, r.2, flux, none, none, none, 0, 0, none⟩

/-- Admit a reference position into a slot: a PROBATION entry and a GUIDE report (R96, R99). -/
def admitGuide (slot : Nat) (r : Int × Int) (flux : Int) (s : State) : State :=
  post (.guide (some slot) .admitted none) (s.setGuide slot (some (newGuide r flux)))

/-! ## MEASURE (R88) -/

/-- Take one guide slot in MEASURE: retire by geometry, or measure the window and keep the result in the working set. The
answer says whether a staging error was met, which ends the stage (R59). -/
def measureSlot (b : Nat) (e : Ecc) (slot : Nat) (s : State) : State × Bool :=
  match s.buffer b, s.stars.guide slot with
  | some f, some g =>
    let p := s.tracker.rotate f.predS f.predC (g.refX, g.refY)
    if s.tracker.poleDistanceSq p < minPoleDistanceSq ∨ s.windowPlaceable p = false then
      (retireGuide slot .geometry s, false)
    else
      let c := cellOf p.1 p.2
      let r := readPixels s f e (.window slot) (pixelsOfCells (windowCells c.1 c.2))
      let s' := applyDarkErrors r.darkErrors s
      match r.stagingError with
      | some tile => (noteStagingError b tile s', true)
      | none =>
        let m := measureWindow s.stars.settings s.config c.1 c.2 (cellsOf r.views)
        let entry : Measured := ⟨slot, g.state == .active, m, m.centroid.map fun q => tangentialError s.tracker p q⟩
        (s'.modifyBuffer b fun f => { f with measured := f.measured ++ [entry] }, false)
  | _, _ => (s, false)

/-- Take guide slots in order until a staging error is met. -/
def measureSlots (b : Nat) (e : Ecc) : List Nat → State → State × Bool
  | [], s => (s, false)
  | k :: ks, s =>
    match measureSlot b e k s with
    | (s', true) => (s', true)
    | (s', false) => measureSlots b e ks s'

/-! ## Guide outcomes in TRACK (R90, R91) -/

/-- Write the last background, centroid and error of an entry from its measurement (R90). -/
def Guide.withMeasurement (g : Guide) (m : Measured) : Guide :=
  { g with background := m.result.background, centroid := m.result.centroid, error := m.error }

/-- The outcome of an ACTIVE entry; `final` says that its error is in the final set (R90). -/
def activeOutcome (m : Measured) (final : Bool) : GuideOutcome :=
  match m.result.verdict with
  | .found => if final then .found else .outlier
  | .saturated => .saturated
  | .notFound => .notFound

/-- Apply the outcome of an entry that was measured (R90, R91). `sn`, `cs` are the final pair, `final` the slots whose errors
are in the final set. -/
def applyOutcome (sn cs : Int) (final : List Nat) (m : Measured) (s : State) : State :=
  match s.stars.guide m.slot with
  | none => s
  | some g0 =>
    let g := g0.withMeasurement m
    match g.state with
    | .active =>
      let o := activeOutcome m (final.contains m.slot)
      let miss := if o = .found then 0 else g.missRun + 1
      if 4 ≤ miss then retireGuide m.slot .missed s
      else s.setGuide m.slot (some { g with outcome := some o, missRun := miss })
    | .probation =>
      match m.result.centroid with
      | none => retireGuide m.slot .probationMiss s
      | some q =>
        if g.probationCount = 0 then
          let r := s.tracker.derotate sn cs q
          if s.stars.crowded (some m.slot) r.1 r.2 then retireGuide m.slot .crowded s
          else
            s.setGuide m.slot (some { g with refX := r.1, refY := r.2, probationCount := 1, outcome := some .found })
        else if g.probationCount + 1 < 3 then
          s.setGuide m.slot (some { g with probationCount := g.probationCount + 1, outcome := some .found })
        else
          post (.guide (some m.slot) .active none)
            (s.setGuide m.slot (some { g with state := .active, probationCount := g.probationCount + 1, missRun := 0,
                                              outcome := some .found }))

/-- Apply the outcomes of all measured entries in slot order (R89). -/
def applyOutcomes (sn cs : Int) (final : List Nat) (ms : List Measured) (s : State) : State :=
  ms.foldl (fun s m => applyOutcome sn cs final m s) s

/-! ## The candidate list (R95) -/

/-- The most records the candidate list holds (R95). -/
def candidateCapacity : Nat := 32

/-- Two candidate records lie near each other (R86, R95). -/
def Candidate.near (a b : Candidate) : Bool := Machine.near a.refX a.refY b.refX b.refY

/-- Insert a record after every record of greater or equal flux (R95). -/
def insertCandidate (c : Candidate) : List Candidate → List Candidate
  | [] => [c]
  | d :: ds => if c.flux ≤ d.flux then d :: insertCandidate c ds else c :: d :: ds

/-- Offer a record to the candidate list (R95). The record's admission number is given when it is admitted. -/
def offerCandidate (c : Candidate) (u : StarUnit) : StarUnit :=
  if u.candidates.any fun d => d.near c && c.flux ≤ d.flux then u
  else
    let kept := u.candidates.filter fun d => !d.near c
    let room :=
      if kept.length < candidateCapacity then some kept
      else
        match kept.getLast? with
        | some last => if last.flux < c.flux then some kept.dropLast else none
        | none => some kept
    match room with
    | none => { u with candidates := kept }
    | some list =>
      { u with candidates := insertCandidate { c with admission := u.nextAdmission } list
               nextAdmission := u.nextAdmission + 1 }

/-! ## The finder (R92 to R94) -/

/-- Some candidate in the list passes the admission tests at a pair. -/
def anyCandidatePasses (s : State) (sn cs : Int) : Bool :=
  s.stars.candidates.any fun c => (admissionFailure s sn cs (c.refX, c.refY)).isNone

/-- The finder scans this sub-frame (R92). -/
def finderScans (s : State) (f : SubFrame) : Bool :=
  f.reference || s.stars.armed ||
    (s.stars.occupiedCount < s.tracker.settings.refillLevel && !anyCandidatePasses s f.finS f.finC)

/-- The eight neighbours of a cell, the four earlier in raster order first (R93). -/
def neighbourCells (i j : Int) : List (Int × Int) :=
  [(i - 1, j - 1), (i, j - 1), (i + 1, j - 1), (i - 1, j), (i + 1, j), (i - 1, j + 1), (i, j + 1), (i + 1, j + 1)]

/-- Tests 1 and 2 of R93 on a cell's value and its eight neighbours in the order of `neighbourCells`; a defect cell is passed
over. -/
def isLocalMaximum (v : Int) (neighbours : List CellRead) : Bool :=
  neighbours.zipIdx.all fun n =>
    match n.1.value with
    | none => true
    | some w => if n.2 < 4 then w < v else w ≤ v

/-- A found peak becomes a candidate record, unless it lies near an occupied guide (R94). -/
def offerPeak (f : SubFrame) (m : Measurement) (s : State) : State :=
  match m.centroid with
  | none => s
  | some q =>
    let r := s.tracker.derotate f.finS f.finC q
    if s.stars.crowded none r.1 r.2 then s
    else { s with stars := offerCandidate ⟨r.1, r.2, m.flux, f.sequence, 0⟩ s.stars }

/-- The cell lies at least 8 cells from every edge and all four of its pixels are sky-routed (R93). -/
def finderConsiders (s : State) (i j : Int) : Bool :=
  8 ≤ i && i < (s.format.cellsAcross : Int) - 8 && 8 ≤ j && j < (s.format.cellsDown : Int) - 8 &&
    cellSkyRouted s.regions s.format i j

/-- Consider the cell with raster index `n` (R93, R94). The answer says whether a staging error was met. Reads: the cell and
its neighbours, those of a cell that proves to be a defect cell included, the border of its window for a local maximum, the
whole window for a peak (DESIGN CHOICE, log 12). The three share the read site of the cell, so a word that more than one of them
reads fails in each or in none (DESIGN CHOICE, log 12: R93 does not say that repeated reads fail alike). -/
def finderCell (b : Nat) (e : Ecc) (n : Nat) (s : State) : State × Bool :=
  let i : Int := (n % s.format.cellsAcross : Nat)
  let j : Int := (n / s.format.cellsAcross : Nat)
  match s.buffer b with
  | none => (s, false)
  | some f =>
    if finderConsiders s i j then
      let first := readPixels s f e (.finder n) (pixelsOfCells ((i, j) :: neighbourCells i j))
      let s := applyDarkErrors first.darkErrors s
      match first.stagingError, cellsOf first.views with
      | some tile, _ => (noteStagingError b tile s, true)
      | none, own :: neighbours =>
        match own.value with
        | none => (s, false)
        | some v =>
          if isLocalMaximum v neighbours then
            let border := readPixels s f e (.finder n) (pixelsOfCells (borderCells (windowCells i j)))
            let s := applyDarkErrors border.darkErrors s
            match border.stagingError, backgroundOf (cellsOf border.views) with
            | some tile, _ => (noteStagingError b tile s, true)
            | none, none => (s, false)
            | none, some bg =>
              if s.stars.settings.findThreshold ≤ v - bg ∧ placeable s.regions s.format i j then
                let whole := readPixels s f e (.finder n) (pixelsOfCells (windowCells i j))
                let s := applyDarkErrors whole.darkErrors s
                match whole.stagingError with
                | some tile => (noteStagingError b tile s, true)
                | none =>
                  (offerPeak f (measureWindow s.stars.settings s.config i j (cellsOf whole.views)) s, false)
              else (s, false)
          else (s, false)
      | none, [] => (s, false)
    else (s, false)

/-- Scan `n` cells from raster index `start`, until a staging error is met (R93). -/
def scanCells (b : Nat) (e : Ecc) : Nat → Nat → State → State × Bool
  | 0, _, s => (s, false)
  | n + 1, start, s =>
    match finderCell b e start s with
    | (s', true) => (s', true)
    | (s', false) => scanCells b e n (start + 1) s'

/-! ## Refill (R96) -/

/-- One admission of refill: the first candidate that passes moves into the EMPTY slot of lowest index; none when a condition
of the loop fails (R96). -/
def refillOnce (sn cs : Int) (s : State) : Option State :=
  match s.stars.lowestEmpty with
  | none => none
  | some slot =>
    if s.stars.occupiedCount < s.tracker.settings.refillLevel then
      match s.stars.candidates.find? fun c => (admissionFailure s sn cs (c.refX, c.refY)).isNone with
      | none => none
      | some c =>
        some (admitGuide slot (c.refX, c.refY) c.flux
          { s with stars := { s.stars with candidates := s.stars.candidates.erase c } })
    else none

/-- Refill, at most `n` admissions; twelve always suffice (R96). -/
def refill (sn cs : Int) : Nat → State → State
  | 0, s => s
  | n + 1, s =>
    match refillOnce sn cs s with
    | some s' => refill sn cs n s'
    | none => s

end Sys2Proof.Machine
end

