-- ==== Sys2Proof/Machine/Tracker.lean ====
section
/-! DEFINITION. The rotation tracking loop (chapter 6): prediction, phase error, loop filter, lock detection, holdover, modes,
settings, sky permission and statistics. -/

namespace Sys2Proof.Machine

/-! ## Prediction (R14) -/

/-- Δt of R14: the time since t_last read as a signed 32-bit number, 0 when negative. -/
def Tracker.deltaT (t : Tracker) (tMid : Time) : Int := max 0 (tMid - t.tLast).toInt

/-- The predicted angle and remainder of a sub-frame (R14). -/
def Tracker.predict (t : Tracker) (tMid : Time) : Int × Nat :=
  let num := t.rate * t.deltaT tMid + t.rem
  let q := floorQ num 1000
  let a := t.a + q
  if a = clampAngle a then (a, (num - 1000 * q).toNat) else (clampAngle a, 0)

/-! ## Phase error (R109, R110) -/

/-- The phase error of a sub-frame: the slots of the final set, the valid count, and e when the sub-frame is sufficient. -/
structure Phase where
  members : List Nat
  valid : Nat
  e : Option Int
  deriving DecidableEq, Repr

/-- The phase error from the errors handed over, each with its slot (R109, R110). -/
def phaseError (gate minGuides : Nat) (errors : List (Nat × Int)) : Phase :=
  match median (errors.map Prod.snd) with
  | none => ⟨[], 0, none⟩
  | some m0 =>
    let final := errors.filter fun p => (p.2 - m0).natAbs ≤ gate
    let valid := final.length
    ⟨final.map Prod.fst, valid, if minGuides ≤ valid then median (final.map Prod.snd) else none⟩

/-- The errors MEASURE hands to the tracker: those of ACTIVE entries found, in slot order (R89). -/
def handedOver (ms : List Measured) : List (Nat × Int) :=
  ms.filterMap fun m => if m.wasActive then m.error.map fun e => (m.slot, e) else none

/-! ## Loop filter (R111 to R113) -/

/-- scaled(e, m, s): e × m / 2^s rounded nearest-away (section 6.4). -/
def scaled (e : Int) (m s : Nat) : Int := nearestAway (e * m) (2 ^ s)

/-- The gains that apply on entry to TRACK in a sufficient sub-frame (R113). -/
def Tracker.gains (t : Tracker) : Option Gains :=
  match t.state with
  | .acquire => some t.settings.acquire
  | .converge | .locked => some t.settings.normal
  | .freerun | .holdover | .manual => none

/-- The proportional step after its clamp (R111). -/
def Tracker.proportional (t : Tracker) (g : Gains) (e : Int) : Int :=
  clamp (-(t.settings.maxStep : Int)) t.settings.maxStep (scaled e g.pMult g.pShift)

/-- The integral step after its clamp (R112). -/
def Tracker.integral (t : Tracker) (g : Gains) (e : Int) : Int :=
  clamp (-(t.settings.rateSlopeLimit : Int)) t.settings.rateSlopeLimit (scaled e g.iMult g.iShift)

/-- Keep the larger of a statistic and a value; a value is kept when the statistic is absent (R121). -/
def keepMax (x : Int) : Option Int → Option Int
  | none => some x
  | some y => some (if y < x then x else y)

/-- Keep the smaller of a statistic and a value (R121). -/
def keepMin (x : Int) : Option Int → Option Int
  | none => some x
  | some y => some (if x < y then x else y)

/-- The correction of a sub-frame: the final angle, and the tracker with the rate and the statistics of R121 updated
(R111, R112). -/
def Tracker.correct (t : Tracker) (aPred : Int) (e : Option Int) : Tracker × Int :=
  match e, t.gains with
  | some e, some g =>
    let p := t.proportional g e
    let i := t.integral g e
    ({ t with rate := clampRate (t.rate + i)
              largestI := keepMax i t.largestI
              smallestI := keepMin i t.smallestI
              largestP := (keepMax p.natAbs (t.largestP.map Int.ofNat)).map Int.toNat },
     clampAngle (aPred + p))
  | _, _ => (t, aPred)

/-! ## Lock detection (R114 to R118) -/

/-- ceil(lock_span / 2) (R104, R115). -/
def TrackSettings.halfSpan (s : TrackSettings) : Nat := (s.lockSpan + 1) / 2

/-- The holdover rate: the mean of the newest history entries, or the rate unchanged (R118). -/
def Tracker.holdoverRate (t : Tracker) : Int :=
  let k := min t.settings.holdoverHistory t.history.length
  if k = 0 then t.rate else meanTowardZero (t.history.drop (t.history.length - k))

/-- Entry to HOLDOVER (R118). -/
def Tracker.enterHoldover (t : Tracker) : Tracker :=
  { t with state := .holdover, holdRun := 0, rate := t.holdoverRate }

/-- A loss of lock (R117). -/
def Tracker.loseLock (t : Tracker) : Tracker :=
  Tracker.raiseLol { t with lolCount := min (t.lolCount + 1) 15 }

/-- Append a rate to the history ring of 16 entries (R116). -/
def appendHistory (r : Int) (h : List Int) : List Int :=
  (if h.length < 16 then h else h.drop (h.length - 15)) ++ [r]

/-- The move of an AUTO tracker at the end of its part of TRACK, by the state on entry (R114 to R116). -/
def Tracker.move (t : Tracker) (e : Option Int) : Tracker × Option TrackCause :=
  match t.state, e with
  | .freerun, none => (t, none)
  | .freerun, some _ => ({ t with state := .acquire, lockRun := 0, holdRun := 0 }, some .guides)
  | .holdover, none => ({ t with holdRun := t.holdRun + 1 }, none)
  | .holdover, some _ => ({ t with state := .acquire, lockRun := 0, holdRun := 0 }, some .guides)
  | .acquire, none => (t.enterHoldover, some .insufficient)
  | .acquire, some e =>
    let run := if e.natAbs < t.settings.lockThreshold then t.lockRun + 1 else 0
    if t.settings.halfSpan ≤ run then ({ t with state := .converge, lockRun := run }, some .converging)
    else ({ t with lockRun := run }, none)
  | .converge, none => (t.enterHoldover, some .insufficient)
  | .converge, some e =>
    if t.settings.lockThreshold ≤ e.natAbs then ({ t with state := .acquire, lockRun := 0 }, some .error)
    else if t.settings.lockSpan ≤ t.lockRun + 1 then
      ({ t with state := .locked, lockRun := t.lockRun + 1 }, some .lock)
    else ({ t with lockRun := t.lockRun + 1 }, none)
  | .locked, none => (t.loseLock.enterHoldover, some .insufficient)
  | .locked, some e =>
    if t.settings.unlockThreshold ≤ e.natAbs then
      ({ t.loseLock with state := .acquire, lockRun := 0 }, some .unlock)
    else ({ t with history := appendHistory t.rate t.history }, none)
  | .manual, _ => (t, none)

/-- The statistic of the fewest valid guides, on a sufficient sub-frame entered in LOCKED (R121). -/
def Tracker.noteValid (t : Tracker) (valid : Nat) (e : Option Int) : Tracker :=
  match t.state, e with
  | .locked, some _ =>
    { t with fewestValid := match t.fewestValid with
        | none => some valid
        | some v => some (if valid < v then valid else v) }
  | _, _ => t

/-- The tracker's part of TRACK for a sub-frame other than the reference: correction, statistics and state (R111 to R118,
R121). The answer holds the tracker, A_k and the cause of a change of state. -/
def Tracker.trackStep (t : Tracker) (aPred : Int) (valid : Nat) (e : Option Int) : Tracker × Int × Option TrackCause :=
  let (t1, aK) := (t.noteValid valid e).correct aPred e
  match t.mode with
  | .auto =>
    let (t2, cause) := t1.move e
    (t2, aK, cause)
  | .holdover => ({ t1 with holdRun := t1.holdRun + 1 }, aK, none)
  | .freerun | .manual => (t1, aK, none)

/-- What TRACK forms for a sub-frame: phase error, the tracker after the loop, A_k and the cause of a change of state
(R109 to R116). The reference is not corrected and no transition is evaluated for it (R113). -/
def trackOf (t : Tracker) (f : SubFrame) : Phase × Tracker × Int × Option TrackCause :=
  let ph := phaseError t.settings.outlierGate t.settings.minGuides (handedOver f.measured)
  if f.reference then (ph, t, 0, none)
  else
    let x := t.trackStep f.aPred ph.valid ph.e
    (ph, x.1, x.2.1, x.2.2)

/-! ## Sky permission (R120) -/

/-- The verdict on the sky pass, from the tracker after TRACK (R120). -/
def Tracker.skyPermission (t : Tracker) (reference acquiring : Bool) : Permission :=
  if reference then .permitted
  else match t.state with
    | .locked | .manual => .permitted
    | .holdover =>
      if t.settings.holdoverLimit = 0 ∨ t.holdRun ≤ t.settings.holdoverLimit then .permitted else .holdExpired
    | .freerun | .acquire | .converge => if acquiring then .permitted else .notLocked

/-! ## Modes and settings (R107, R119, R124) -/

/-- Post a TRACK report when the tracker's state has changed (R108). -/
def reportTrack (old : TrackState) (cause : TrackCause) (s : State) : State :=
  if old = s.tracker.state then s else post (.track old s.tracker.state cause) s

/-- Apply a held mode (R107). -/
def applyMode (m : TrackMode) (s : State) : State :=
  let t := s.tracker
  if m = t.mode then s
  else
    let t1 : Tracker := { t with mode := m, lockRun := 0, holdRun := 0 }
    let t2 : Tracker := match m with
      | .freerun => { t1 with state := .freerun, rate := s.config.nominalRate }
      | .holdover => t1.enterHoldover
      | .manual => { t1 with state := .manual, rate := t1.settings.manualRate }
      | .auto =>
        { t1 with state := if t1.settings.minGuides ≤ s.stars.activeCount then .acquire else .freerun }
    reportTrack t.state .mode { s with tracker := t2 }

/-- Apply a held rate: the tracker's rate and manual_rate (R124). -/
def applyRate (r : Int) (s : State) : State :=
  { s with tracker := { s.tracker with rate := r, settings := { s.tracker.settings with manualRate := r } } }

/-- Write the fields present into the settings record, and restore the relations between min_guides and refill_level and
between the thresholds (R119). -/
def TrackSettings.write (s : TrackSettings) (f : TrackFields) : TrackSettings :=
  let lock := f.lockThreshold.getD s.lockThreshold
  let guides := f.minGuides.getD s.minGuides
  { acquire := f.acquire.getD s.acquire
    normal := f.normal.getD s.normal
    maxStep := f.maxStep.getD s.maxStep
    rateSlopeLimit := f.rateSlopeLimit.getD s.rateSlopeLimit
    lockThreshold := lock
    unlockThreshold := max lock (f.unlockThreshold.getD s.unlockThreshold)
    outlierGate := f.outlierGate.getD s.outlierGate
    lockSpan := f.lockSpan.getD s.lockSpan
    minGuides := guides
    refillLevel := max guides (f.refillLevel.getD s.refillLevel)
    holdoverHistory := f.holdoverHistory.getD s.holdoverHistory
    holdoverLimit := f.holdoverLimit.getD s.holdoverLimit
    lolThreshold := f.lolThreshold.getD s.lolThreshold
    manualRate := s.manualRate }

/-- CONVERGE or LOCKED with a lock_run below ceil(lock_span/2) falls back to ACQUIRE (R119). -/
def Tracker.demoted (t : Tracker) : Bool :=
  (t.state == .converge || t.state == .locked) && t.lockRun < t.settings.halfSpan

/-- Apply the held configuration fields of the tracker (R119). -/
def applyTrackFields (f : TrackFields) (s : State) : State :=
  if f = {} then s
  else
    let t := { s.tracker with settings := s.tracker.settings.write f }
    let t1 := if t.demoted then { t with state := .acquire } else t
    reportTrack t.state .span { s with tracker := t1.raiseLol }

/-- Apply the resume mark (R34). -/
def applyResumeMark (s : State) : State :=
  let t := { s.tracker with lockRun := 0 }
  let t1 := if t.state = .converge ∨ t.state = .locked then { t with state := .acquire } else t
  reportTrack t.state .resume { s with tracker := t1 }

/-- Apply the held star settings (R103). -/
def StarSettings.write (s : StarSettings) (p : StarPending) : StarSettings :=
  ⟨p.starThreshold.getD s.starThreshold, p.minFlux.getD s.minFlux, p.findThreshold.getD s.findThreshold⟩

/-- Apply the held stack settings (R156, R157). -/
def StackSettings.write (s : StackSettings) (p : StackPending) : StackSettings where
  rejectMode := p.rejectMode.getD s.rejectMode
  kq := p.kq.getD s.kq
  readVariance := p.readVariance.getD s.readVariance
  shot := p.shot.getD s.shot
  rejectMinCount := p.rejectMinCount.getD s.rejectMinCount
  gateMargin := p.gateMargin.getD s.gateMargin
  stackWhileAcquiring := p.stackWhileAcquiring.getD s.stackWhileAcquiring

end Sys2Proof.Machine
end

