-- ==== Sys2Proof/Machine/Held.lean ====
section
/-! DEFINITION. The edit queue and the pending settings records (section 3.7): applying edits, applying settings, and when each
is applied or held. -/

namespace Sys2Proof.Machine

/-- The most edits the edit queue holds (R56). -/
def editCapacity : Nat := 16

/-! ## Applying edits (R99, R100, R125, R137, R138) -/

/-- Apply a GUIDE.ADD (R99): the admission tests at the pair of the tracker's angle. -/
def applyGuideAdd (x y : Int) (s : State) : State :=
  match s.stars.lowestEmpty with
  | none => post (.guide none .refused (some .full)) s
  | some slot =>
    match admissionFailure s (sinScaled s.tracker.a) (cosScaled s.tracker.a) (x, y) with
    | some reason => post (.guide none .refused (some reason)) s
    | none => admitGuide slot (x, y) 0 s

/-- Apply a GUIDE.DROP (R100): an occupied slot is retired, an EMPTY one is left. -/
def applyGuideDrop (slot : Nat) (s : State) : State :=
  match s.stars.guide slot with
  | some _ => retireGuide slot .dropped s
  | none => s

/-- Apply a REGION.CLEAR (R138). -/
def clearRegions (index : Option Nat) (regions : List (Option Region)) : List (Option Region) :=
  match index with
  | some k => regions.set k none
  | none => regions.map fun _ => none

/-- Apply one edit (R56). The class map is derived from the region list, so it changes with it (R130). -/
def applyEdit (e : Edit) (s : State) : State :=
  match e with
  | .regionSet k r => { s with regions := s.regions.set k (some r) }
  | .regionClear k => { s with regions := clearRegions k s.regions }
  | .guideAdd x y => applyGuideAdd x y s
  | .guideDrop k => applyGuideDrop k s
  | .setPole x y => { s with tracker := { s.tracker with poleX := x, poleY := y } }

/-- Apply edits in the order received, each completed before the next begins (R52, R56). -/
def applyEdits (es : List Edit) (s : State) : State := es.foldl (fun s e => applyEdit e s) s

/-- Apply the whole edit queue and leave it empty. -/
def applyQueue (s : State) : State :=
  applyEdits s.engine.edits { s with engine := { s.engine with edits := [] } }

/-! ## Applying settings (R57) -/

/-- No field of the pending records is held and no resume mark (R57). -/
def State.noSettingsHeld (s : State) : Bool :=
  s.engine.pendTracker == {} && s.engine.pendStars == {} && s.engine.pendStack == {} && !s.engine.resumeMark

/-- Apply pending records: the tracker's fields, its rate, its mode, the resume mark, the star record, the stack record
(R57). -/
def applyRecords (pt : TrackPending) (mark : Bool) (ps : StarPending) (pk : StackPending) (s : State) : State :=
  let s := applyTrackFields pt.fields s
  let s := match pt.rate with | some r => applyRate r s | none => s
  let s := match pt.mode with | some m => applyMode m s | none => s
  let s := if mark then applyResumeMark s else s
  let s := { s with stars := { s.stars with settings := s.stars.settings.write ps } }
  { s with stacker := { s.stacker with settings := s.stacker.settings.write pk } }

/-- Apply the held settings and the resume mark; every field is absent afterwards (R57). -/
def applySettings (s : State) : State :=
  applyRecords s.engine.pendTracker s.engine.resumeMark s.engine.pendStars s.engine.pendStack
    { s with engine := { s.engine with pendTracker := {}, pendStars := {}, pendStack := {}, resumeMark := false } }

/-- Held edits and settings are applied when no light sub-frame is in processing and none that is not abandoned is STAGED or
ARRIVING (R58). -/
def applyHeldIfDue (s : State) : State :=
  if s.lightInProcessing || s.lightWaiting then s else applySettings (applyQueue s)

/-! ## Taking an edit or settings from a request (R56, R57) -/

/-- An edit that has passed its checks: applied at once, joined to the queue, or refused with NO_SPACE (R56). -/
def takeEdit (e : Edit) (s : State) : State × Status :=
  if !s.lightInProcessing && s.engine.edits.isEmpty then (applyEdit e s, .ok)
  else if s.engine.edits.length < editCapacity then
    ({ s with engine := { s.engine with edits := s.engine.edits ++ [e] } }, .ok)
  else (s, .noSpace)

/-- A value written over a held one: the last write of a field wins (R57). -/
def lastWrite {α : Type} (new held : Option α) : Option α := new.orElse fun _ => held

/-- Write the fields a TRACK.CONFIGURE carries over those held (R57). -/
def TrackFields.overHeld (n h : TrackFields) : TrackFields where
  acquire := lastWrite n.acquire h.acquire
  normal := lastWrite n.normal h.normal
  maxStep := lastWrite n.maxStep h.maxStep
  rateSlopeLimit := lastWrite n.rateSlopeLimit h.rateSlopeLimit
  lockThreshold := lastWrite n.lockThreshold h.lockThreshold
  unlockThreshold := lastWrite n.unlockThreshold h.unlockThreshold
  outlierGate := lastWrite n.outlierGate h.outlierGate
  lockSpan := lastWrite n.lockSpan h.lockSpan
  minGuides := lastWrite n.minGuides h.minGuides
  refillLevel := lastWrite n.refillLevel h.refillLevel
  holdoverHistory := lastWrite n.holdoverHistory h.holdoverHistory
  holdoverLimit := lastWrite n.holdoverLimit h.holdoverLimit
  lolThreshold := lastWrite n.lolThreshold h.lolThreshold

/-- Write a request's tracker fields over those held. -/
def TrackPending.overHeld (n h : TrackPending) : TrackPending :=
  ⟨n.fields.overHeld h.fields, lastWrite n.rate h.rate, lastWrite n.mode h.mode⟩

/-- Write a request's star fields over those held. -/
def StarPending.overHeld (n h : StarPending) : StarPending :=
  ⟨lastWrite n.starThreshold h.starThreshold, lastWrite n.minFlux h.minFlux,
   lastWrite n.findThreshold h.findThreshold⟩

/-- Write a request's stack fields over those held. -/
def StackPending.overHeld (n h : StackPending) : StackPending where
  rejectMode := lastWrite n.rejectMode h.rejectMode
  kq := lastWrite n.kq h.kq
  readVariance := lastWrite n.readVariance h.readVariance
  shot := lastWrite n.shot h.shot
  rejectMinCount := lastWrite n.rejectMinCount h.rejectMinCount
  gateMargin := lastWrite n.gateMargin h.gateMargin
  stackWhileAcquiring := lastWrite n.stackWhileAcquiring h.stackWhileAcquiring

/-- Settings carried by a request: applied at once when no light sub-frame is in processing and nothing is held, otherwise
written over what is held (R57). -/
def takeSettings (pt : TrackPending) (ps : StarPending) (pk : StackPending) (s : State) : State :=
  if !s.lightInProcessing && s.noSettingsHeld then applyRecords pt false ps pk s
  else
    { s with engine := { s.engine with pendTracker := pt.overHeld s.engine.pendTracker
                                       pendStars := ps.overHeld s.engine.pendStars
                                       pendStack := pk.overHeld s.engine.pendStack } }

/-- The resume mark of SESSION.RESUME: applied at once when no light sub-frame is in processing and no setting or edit is
held, otherwise held (R34). -/
def takeResumeMark (s : State) : State :=
  if !s.lightInProcessing && s.noSettingsHeld && s.engine.edits.isEmpty then applyResumeMark s
  else { s with engine := { s.engine with resumeMark := true } }

end Sys2Proof.Machine
end

