-- ==== Sys2Proof/Machine/Pipeline.lean ====
section
/-! DEFINITION. The sub-frame pipeline (chapter 3): arrival checks, acceptance, rows, the end of an arrival, frames leaving the
pool, PREPARE and the choice of the next job. -/

namespace Sys2Proof.Machine

/-! ## Leaving the staging pool -/

/-- A build whose accepting is no and whose frames outstanding is 0 ends: FINALIZING with frames added, else FREE with a DARK
report EMPTY (R67). -/
def testBuildEnd (s : State) : State :=
  match s.calib.build with
  | none => s
  | some b =>
    if b.accepting = false ∧ b.outstanding = 0 ∧ s.calib.slot b.slot = .building then
      if 1 ≤ b.added then s.setSlot b.slot .finalizing
      else
        let s := s.setSlot b.slot .free
        post (.dark b.slot .empty 0 0) { s with calib := { s.calib with build := none } }
    else s

/-- The build a dark frame was accepted for is the build in progress (R55). -/
def State.matchesBuild (s : State) (f : SubFrame) : Bool :=
  match s.calib.build, f.build with
  | some b, some (slot, number) => b.slot == slot && b.number == number && s.calib.slot slot == .building
  | _, _ => false

/-- A dark frame ceases to be outstanding for its build, which may end it (R44, R46, R60, R67). -/
def leaveBuild (f : SubFrame) (s : State) : State :=
  if s.matchesBuild f then
    match s.calib.build with
    | some b => testBuildEnd { s with calib := { s.calib with build := some { b with outstanding := b.outstanding - 1 } } }
    | none => s
  else s

/-- What follows when a light sub-frame has left the pool: the reference role when it held it before TRACK, the end of CLOSING
and the held edits and settings (R28, R32, R58). -/
def afterLightLeaves (b : Nat) (s : State) : State :=
  let s := if s.session.refMark = some b then loseReference s else s
  applyHeldIfDue (testDrained s)

/-- Drop an accepted sub-frame: its buffer becomes FREE, the drop bookkeeping is taken, and what follows from the loss of a
light or dark frame is done (R46, R59, R60). -/
def dropAccepted (b : Nat) (reason : DropReason) (m : Option Malformation) (s : State) : State :=
  match s.buffer b with
  | none => s
  | some f =>
    let s := s.setBuffer b none
    let s := dropBookkeeping f.sequence reason m (f.kind == .light && s.session.state != .idle) s
    match f.kind with
    | .light => afterLightLeaves b s
    | .dark => leaveBuild f s

/-! ## The end of an arrival (R46, R47) -/

/-- End the current arrival with a malformation: an abandoned arrival frees its buffer without a trace, any other is dropped as
MALFORMED (R46, R47). -/
def dropArrival (a : Arrival) (m : Malformation) (s : State) : State :=
  match s.buffer a.buffer with
  | none => s
  | some f =>
    if f.abandoned then applyHeldIfDue (s.setBuffer a.buffer none)
    else dropAccepted a.buffer .malformed (some (a.malformation.getD m)) s

/-- A header interrupts the current arrival, which has no end marker (R47). -/
def interruptArrival (s : State) : State :=
  match s.port.state with
  | .capturing a => dropArrival a .missingEnd { s with port := { s.port with state := .waiting } }
  | .waiting | .skipping => s

/-- An end marker on the port (R39, R46): in CAPTURING a complete frame is STAGED and any other dropped. -/
def endArrival (s : State) : State :=
  match s.port.state with
  | .waiting => s
  | .skipping => { s with port := { s.port with state := .waiting } }
  | .capturing a =>
    let s := { s with port := { s.port with state := .waiting } }
    match s.buffer a.buffer with
    | none => s
    | some f =>
      if a.malformation = none ∧ a.expected = f.height ∧ f.abandoned = false then
        let s := s.setBuffer a.buffer (some { f with stage := .staged })
        { s with power := { s.power with napTimer := 0 } }
      else dropArrival a .short s

/-! ## Rows (R45) -/

/-- Write the samples of row `row` of width `w` into a buffer, as received. -/
def writeRow (w row : Nat) (samples : List Half) (p : Plane Half) : Plane Half :=
  (samples.zipIdx.foldl (fun q v => q.set 0 (row * w + v.2) v.1) p)

/-- A row item in CAPTURING: written when good, otherwise the first malformation is recorded (R45). `words` is the item
without its first word. -/
def captureRow (a : Arrival) (words : List Half) (s : State) : State :=
  match a.malformation, s.buffer a.buffer with
  | none, some f =>
    let fail (m : Malformation) : State :=
      { s with port := { s.port with state := .capturing { a with malformation := some m } } }
    match words with
    | [] => fail .rowOrder
    | index :: samples =>
      if index.toNat ≠ a.expected ∨ f.height ≤ index.toNat then fail .rowOrder
      else if samples.length ≠ f.width then fail .rowLength
      else
        let s := s.setBuffer a.buffer (some { f with samples := writeRow f.width a.expected samples f.samples })
        { s with port := { s.port with state := .capturing { a with expected := a.expected + 1 } } }
  | _, _ => s

/-! ## Headers (R39 to R44) -/

/-- The kind field of a header record (R40, R205). -/
inductive HeaderKind where
  | light | dark | other
  deriving DecidableEq, Repr

/-- A header record as read: `proper` says that the item has the length of a header record (R39). -/
structure Header where
  proper : Bool
  sequence : Nat
  kind : HeaderKind
  width : Nat
  height : Nat
  exposureMs : Nat
  temperature : Int
  deriving DecidableEq, Repr

/-- The kind code of a header (R205). -/
def headerKind (w : Half) : HeaderKind := if w = 1 then .light else if w = 2 then .dark else .other

/-- The temperature of a header, clamped (R40). -/
def headerTemperature (w : Half) : Int := clamp (-400) 850 w.toInt

/-- A header item without its first word (R39, R40, R205). A header of the wrong length has its sequence number and, as far as
the item goes, its other fields read from their places (log 14). -/
def readHeader (words : List Half) : Header :=
  let word (k : Nat) : Half := words.getD k 0
  { proper := words.length == 7
    sequence := (word 0).toNat
    kind := headerKind (word 1)
    width := (word 2).toNat
    height := (word 3).toNat
    exposureMs := (word 4).toNat + 65536 * (word 5).toNat
    temperature := headerTemperature (word 6) }

/-- The consumer of a header (R41). -/
inductive Consumer where
  | build | session | none
  deriving DecidableEq, Repr

/-- Decide the consumer (R41). -/
def State.consumer (s : State) (k : HeaderKind) : Consumer :=
  if s.buildAccepting then .build
  else match s.session.state with
    | .armed | .integrating => .session
    | .opening | .paused => if k = .dark then .none else .session
    | .idle | .closing | .closed => .none

/-- The mid-exposure time of a header (R12). -/
def State.midExposure (s : State) (tH : Time) (exposureMs : Nat) : Time :=
  tH - BitVec.ofNat 32 (exposureMs / 2) - BitVec.ofNat 32 s.config.readoutOffset

/-- Check 6 fails (R42). -/
def State.exposureFails (s : State) (c : Consumer) (exposureMs : Nat) : Bool :=
  match c with
  | .session => exposureMs != s.config.exposureMs
  | .build =>
    match s.calib.build.bind fun b => b.exposureMs with
    | some x => exposureMs != x
    | Option.none => false
  | .none => false

/-- Check 7 fails (R42). -/
def State.limitFails (s : State) (c : Consumer) (tMid : Time) : Bool :=
  match c with
  | .session => s.session.state == .integrating && s.config.maxDuration < (s.elapsedOf tMid).toNat
  | .build =>
    match s.calib.build with
    | some b => 255 ≤ b.added + b.outstanding
    | Option.none => false
  | .none => false

/-- The arrival checks in order: the reason of the first that fails (R42). -/
def State.arrivalCheck (s : State) (h : Header) (tMid : Time) : Option DropReason :=
  let c := s.consumer h.kind
  if h.proper = false ∨ h.width ≠ s.format.width ∨ h.height ≠ s.format.height then some .format
  else if c = .none then some .noConsumer
  else if (c = .session ∧ h.kind ≠ .light) ∨ (c = .build ∧ h.kind ≠ .dark) then some .kind
  else if c = .session ∧ s.session.state = .opening then some .clearing
  else if c = .session ∧ s.session.state = .paused then some .paused
  else if s.exposureFails c h.exposureMs then some .exposure
  else if s.limitFails c tMid then some .limit
  else if s.lowestFree.isNone then some .noBuffer
  else none

/-- The record of an accepted frame (R44, R48). What the fields that no stage has written yet hold is not stated: numbers are 0,
pairs those of the angle 0, optional fields absent, the permission NOT_LOCKED (DESIGN CHOICE, log 34). -/
def newRecord (h : Header) (kind : FrameKind) (number : BitVec 32) (tH tMid : Time) (build : Option (Nat × Nat)) :
    SubFrame where
  stage := .arriving
  acceptance := number
  sequence := h.sequence
  kind := kind
  width := h.width
  height := h.height
  exposureMs := h.exposureMs
  temperature := h.temperature
  tH := tH
  tMid := tMid
  build := build
  reference := false
  abandoned := false
  noDark := false
  stagingError := false
  aPred := 0
  remPred := 0
  predS := 0
  predC := trigScale
  darkChoice := .none
  measured := []
  phaseError := none
  validCount := 0
  aK := 0
  finS := 0
  finC := trigScale
  permission := .notLocked
  bK := none
  skySkip := .none
  skyRejected := 0
  skyClipped := 0
  groundRejected := 0
  groundClipped := 0
  samples := .nil

/-- Claim the FREE buffer of lowest index for an accepted header (R44). -/
def claimBuffer (b : Nat) (f : SubFrame) (s : State) : State :=
  let s := s.setBuffer b (some f)
  { s with port := { s.port with state := .capturing ⟨b, 0, none⟩, nextAcceptance := s.port.nextAcceptance + 1 } }

/-- The session takes an accepted light header: accepted is counted, in ARMED it becomes the reference, and the count limit is
applied, with one report (R27, R30, R44). -/
def acceptLight (b : Nat) (s : State) : State :=
  let s := { s with session := { s.session with accepted := satAdd s.session.accepted 1 } }
  let first := s.session.state = .armed
  let s := if first then makeReference b s else s
  if s.session.accepted = s.config.maxSubframes then closeSession .countLimit s
  else if first then changeSession .integrating .reference s
  else s

/-- The build takes an accepted dark header: the frame is outstanding for it and the first fixes its exposure (R44). -/
def acceptDark (exposureMs : Nat) (s : State) : State :=
  match s.calib.build with
  | some b =>
    { s with calib := { s.calib with build := some { b with outstanding := b.outstanding + 1,
                                                            exposureMs := some (b.exposureMs.getD exposureMs) } } }
  | none => s

/-- Drop a header (R43): the port skips the frame, the bookkeeping is taken, and a time-limit drop closes the session (R31). -/
def dropHeader (h : Header) (reason : DropReason) (s : State) : State :=
  let timeLimit := reason = .limit ∧ s.consumer h.kind = .session
  let s := { s with port := { s.port with state := .skipping } }
  let s := dropBookkeeping h.sequence reason none (h.kind == .light && s.session.state.countsDrops) s
  if timeLimit then closeSession .timeLimit s else s

/-- Judge a header taken at the present clock, the port not capturing (R41 to R44). -/
def judgeHeader (h : Header) (s : State) : State :=
  let tH := s.time.clock
  let tMid := s.midExposure tH h.exposureMs
  match s.arrivalCheck h tMid, s.lowestFree with
  | some reason, _ => dropHeader h reason s
  | none, none => s
  | none, some b =>
    match h.kind with
    | .dark =>
      acceptDark h.exposureMs
        (claimBuffer b (newRecord h .dark s.port.nextAcceptance tH tMid (s.calib.build.map fun x => (x.slot, x.number))) s)
    | .light | .other => acceptLight b (claimBuffer b (newRecord h .light s.port.nextAcceptance tH tMid none) s)

/-! ## PREPARE (R52) -/

/-- Step 3 of PREPARE: the predicted angle, remainder and prediction pair; zero for the reference (R14, R16, R52). -/
def predictFrame (t : Tracker) (f : SubFrame) : SubFrame :=
  let p := if f.reference then (0, 0) else t.predict f.tMid
  { f with aPred := p.1, remPred := p.2, predS := sinScaled p.1, predC := cosScaled p.1 }

/-- Step 4 of PREPARE: the dark choice and the NO_DARK flag (R52, R72). -/
def chooseFrameDark (s : State) (f : SubFrame) : SubFrame :=
  let choice := chooseDark (eligibleSlots s.config s.calib.slots) f.temperature
  { f with darkChoice := choice, noDark := choice == .none }

/-- Take the light sub-frame of a STAGED buffer as the job and run PREPARE; MEASURE begins (R52). -/
def prepare (b : Nat) (s : State) : State :=
  let s := { s with engine := { s.engine with job := some (.light b) } }
  let s := s.modifyBuffer b fun f => { f with stage := .prepare }
  let s := applySettings (applyQueue s)
  s.modifyBuffer b fun f => { chooseFrameDark s (predictFrame s.tracker f) with stage := .measure }

/-! ## The choice of job (R50) -/

/-- Take the first job of the job order that exists (R50). -/
def selectJob (s : State) : State :=
  match s.oldestStaged with
  | some b =>
    match s.buffer b with
    | some f =>
      match f.kind with
      | .light => prepare b s
      | .dark =>
        let s := s.setBuffer b (some { f with stage := .darkAdd })
        { s with engine := { s.engine with job := some (.dark b) } }
    | none => s
  | none =>
    if s.finalizing then { s with engine := { s.engine with job := some .finalization } }
    else
      match s.engine.tileRequest with
      | some t => { s with engine := { s.engine with job := some (.tileStatus t), tileRequest := none } }
      | none =>
        match s.nextRenderTile with
        | some t =>
          { s with engine := { s.engine with
              job := some (.renderTile t s.regions s.session.skyStacked s.session.groundStacked) } }
        | none => s

/-- The engine's job ends. -/
def endJob (s : State) : State := { s with engine := { s.engine with job := none } }

/-- Change the sub-frame's stage. -/
def setStage (b : Nat) (st : Stage) (s : State) : State := s.modifyBuffer b fun f => { f with stage := st }

/-- A light sub-frame in processing is dropped with reason MEMORY (R59). -/
def dropMemory (b : Nat) (s : State) : State := dropAccepted b .memory none (endJob s)

end Sys2Proof.Machine
end

