-- ==== Sys2Proof/Machine/DarkJobs.lean ====
section
/-! DEFINITION. The two engine jobs of a dark build (chapter 4): the sweeps of DARK_ADD and dark finalization. -/

namespace Sys2Proof.Machine

/-! ## DARK_ADD (R60, R65) -/

/-- The largest raw value (R1, R60). -/
def rawMax : Nat := 16383

/-- The first staging word that the check sweep finds uncorrectable, which the MEMORY report names (R60). R60 gives no order of
reading: the words are taken by rising index (DESIGN CHOICE, log 22). -/
def checkSweepError (e : Ecc) (words : Nat) : Option Nat :=
  (List.range words).find? fun w => readFails e .checkSweep (.staging w)

/-- The raw value that the add sweep adds for a pixel: 16,383 when its staging word is uncorrectable (R60, R65). -/
def addedRaw (e : Ecc) (f : SubFrame) (i : Nat) : Nat :=
  if readFails e .addSweep (.staging (i / 4)) then rawMax else f.raw i

/-- The add sweep in progress: the state, and whether a scratch error has been reported. -/
structure AddWork where
  s : State
  reported : Bool
  deriving DecidableEq, Repr

/-- The new scratch sum of a pixel, from the old one unless the scratch is fresh; a scratch word that cannot be read gives
full scale in every frame (R65). -/
def newSum (e : Ecc) (f : SubFrame) (bd : Build) (old : Nat) (i : Nat) : Nat :=
  if bd.fresh then addedRaw e f i
  else if readFails e .addSweep (.scratch (i / 2)) then rawMax * (bd.added + 1)
  else old + addedRaw e f i

/-- A scratch word read for the add is uncorrectable. -/
def scratchFails (e : Ecc) (bd : Build) (i : Nat) : Bool :=
  !bd.fresh && readFails e .addSweep (.scratch (i / 2))

/-- The add sweep at one pixel (R65). A failing staging word is reported at its first sample (R60, log 22); the first failing
scratch word of the job is reported. Where both fail at one pixel, the staging report is posted before the scratch report
(R60 and R65 give no order: DESIGN CHOICE, log 22). -/
def addPixel (e : Ecc) (f : SubFrame) (bd : Build) (i : Nat) (w : AddWork) : AddWork :=
  let tile := w.s.format.tileOfIndex i
  let s := if readFails e .addSweep (.staging (i / 4)) ∧ i % 4 = 0 then post (.memory .staging none tile) w.s else w.s
  let s := if scratchFails e bd i ∧ w.reported = false then post (.memory .darkScratch (some bd.slot) tile) s else s
  let old := (s.calib.scratch.get 0 i).toNat
  { s := { s with calib := { s.calib with scratch := s.calib.scratch.set 0 i (BitVec.ofNat 32 (newSum e f bd old i)) } }
    reported := w.reported || scratchFails e bd i }

/-- The first `n` pixels of the add sweep. -/
def addSweep (e : Ecc) (f : SubFrame) (bd : Build) (n : Nat) (s : State) : State :=
  (loop (addPixel e f bd) n 0 ⟨s, false⟩).s

/-- The build record after a frame has been added (R65). -/
def Build.afterAdd (bd : Build) (temperature : Int) : Build :=
  { bd with added := bd.added + 1, outstanding := bd.outstanding - 1, tempSum := bd.tempSum + temperature, fresh := false }

/-- DARK_ADD of the frame `f` in buffer `b`; a frame whose build is gone is freed unread (R55, R60, R65). -/
def runDarkAdd (b : Nat) (e : Ecc) (f : SubFrame) (s : State) : State :=
  match s.matchesBuild f, s.calib.build with
  | true, some bd =>
    let s := countCorrected e s
    match checkSweepError e (s.format.pixelCount / 4) with
    | some w => dropAccepted b .memory none (endJob (post (.memory .staging none (s.format.tileOfIndex (4 * w))) s))
    | none =>
      let s := addSweep e f bd s.format.pixelCount s
      let s := { s with calib := { s.calib with build := some (bd.afterAdd f.temperature) } }
      testBuildEnd (endJob (s.setBuffer b none))
  | _, _ => endJob (s.setBuffer b none)

/-- DARK_ADD abandoned after `units` pixels of its add sweep (R69, log 5): what it wrote and reported so far. -/
def partialDarkAdd (b : Nat) (e : Ecc) (units : Nat) (s : State) : State :=
  match s.buffer b with
  | none => s
  | some f =>
    match s.matchesBuild f, s.calib.build with
    | true, some bd => addSweep e f bd (min units s.format.pixelCount) s
    | _, _ => s

/-! ## Dark finalization (R68) -/

/-- A finalization in progress: the state, the plane written so far, whether a scratch error has been reported, and the counts
of hot pixels. -/
structure FinalWork where
  s : State
  plane : Plane Half
  reported : Bool
  added : Nat
  notAdded : Nat
  deriving DecidableEq, Repr

/-- The largest plane value (R68). -/
def planeMax : Nat := 65532

/-- The plane value of a scratch sum over N frames (R68). -/
def planeValueOf (sum n : Nat) : Nat := (8 * sum + n) / (2 * n)

/-- Offer a hot pixel to the defect list and count it (R68). -/
def offerHot (i : Nat) (w : FinalWork) : FinalWork :=
  match offerDefect i w.s.calib.defects with
  | (.added, ds) => { w with s := { w.s with calib := { w.s.calib with defects := ds } }, added := w.added + 1 }
  | (.present, _) => w
  | (.notAdded, _) => { w with notAdded := w.notAdded + 1 }

/-- Finalize one pixel (R68). -/
def finalizePixel (e : Ecc) (bd : Build) (i : Nat) (w : FinalWork) : FinalWork :=
  let fails := readFails e .finalization (.scratch (i / 2))
  let s :=
    if fails ∧ w.reported = false then post (.memory .darkScratch (some bd.slot) (w.s.format.tileOfIndex i)) w.s else w.s
  let q := if fails then planeMax else planeValueOf (s.calib.scratch.get 0 i).toNat bd.added
  let w' := { w with s := s, plane := w.plane.set 0 i (BitVec.ofNat 16 q), reported := w.reported || fails }
  if 1 ≤ bd.hotLevel ∧ bd.hotLevel ≤ q then offerHot i w' else w'

/-- The first `n` pixels of a finalization. -/
def finalizePixels (e : Ecc) (bd : Build) (n : Nat) (s : State) : FinalWork :=
  loop (finalizePixel e bd) n 0 ⟨s, .nil, false, 0, 0⟩

/-- The dark of a finalized build (R68). -/
def Build.dark (bd : Build) (plane : Plane Half) : Dark where
  temperature := nearestAway bd.tempSum bd.added
  exposureMs := bd.exposureMs.getD 0
  frameCount := bd.added
  plane := plane

/-- Dark finalization to its completion (R68). -/
def runFinalization (e : Ecc) (bd : Build) (s : State) : State :=
  let w := finalizePixels e bd s.format.pixelCount s
  let s := endJob (w.s.setSlot bd.slot (.ready (bd.dark w.plane)))
  post (.dark bd.slot .ready w.added w.notAdded) { s with calib := { s.calib with build := none } }

end Sys2Proof.Machine
end

