-- ==== Sys2Proof/Machine/Render.lean ====
section
/-! DEFINITION. The finisher's computations (chapter 9): the render tile job, starting a render, abandoning one. -/

namespace Sys2Proof.Machine

/-! ## One pixel (R164 to R166) -/

/-- The layer a pixel is taken from (R164). -/
def Route.layer : Route → Option LayerId
  | .sky => some .sky
  | .ground => some .ground
  | .neither => none

/-- How a pixel is tallied (R165). -/
inductive PixelTally where
  | plain | filled | clipped
  deriving DecidableEq, Repr

/-- A rendered pixel: the layer it was taken from, its output and its tally. -/
structure OutPixel where
  layer : Option LayerId
  value : Int
  tally : PixelTally
  deriving DecidableEq, Repr

/-- The mean of a record, halves rounded up: floor((2S + n) / 2n) (R165, R166). -/
def Acc.mean (r : Acc) : Int := floorQ (2 * r.sum + r.count) (2 * r.count)

/-- An output value: the pedestal added, clamped to 0 to 65,535 (R165, R166). -/
def withPedestal (mean : Int) (pedestal : Nat) : Int := clamp 0 65535 (mean + pedestal)

/-- The four neighbours of the hole fill (R166). -/
def fillNeighbours (px py : Int) : List (Int × Int) := [(px, py - 2), (px, py + 2), (px - 2, py), (px + 2, py)]

/-- The mean a neighbour gives, if any, with the state after its record was read (R166, R167). -/
def neighbourMean (e : Ecc) (map : List (Option Region)) (l : LayerId) (p : Int × Int) (s : State) : State × Option Int :=
  if (routePixel map s.format p.1 p.2).layer = some l then
    let a := s.format.recordAddress p.1.toNat p.2.toNat
    if s.tileDamaged l (a / 4096) then (s, none)
    else if recordFails e .renderTile l a then (damageRecord e .renderTile l a none s, none)
    else
      let r := s.stacker.record l a
      (s, if r.count = 0 then none else some r.mean)
  else (s, none)

/-- The means of the neighbours, read in the order in which R166 lists them (R166 gives no order of reading: DESIGN CHOICE,
log 36). -/
def neighbourMeans (e : Ecc) (map : List (Option Region)) (l : LayerId) : List (Int × Int) → State → State × List Int
  | [], s => (s, [])
  | p :: ps, s =>
    let x := neighbourMean e map l p s
    let y := neighbourMeans e map l ps x.1
    (y.1, x.2.toList ++ y.2)

/-- The output of the hole fill from the means found (R166). -/
def fillValue (means : List Int) (pedestal : Nat) : Int :=
  match means with
  | [] => pedestal
  | _ => withPedestal (floorQ means.sum means.length) pedestal

/-- A pixel taken from a layer (R165, R167). -/
def layerPixel (e : Ecc) (map : List (Option Region)) (pedestal : Nat) (l : LayerId) (px py : Nat) (s : State) :
    State × OutPixel :=
  let a := s.format.recordAddress px py
  let damaged : OutPixel := ⟨some l, pedestal, .plain⟩
  if s.tileDamaged l (a / 4096) then (s, damaged)
  else if recordFails e .renderTile l a then (damageRecord e .renderTile l a none s, damaged)
  else
    let r := s.stacker.record l a
    if 0 < r.count then (s, ⟨some l, withPedestal r.mean pedestal, .plain⟩)
    else if r.clipped then (s, ⟨some l, 65535, .clipped⟩)
    else
      let x := neighbourMeans e map l (fillNeighbours px py) s
      (x.1, ⟨some l, fillValue x.2 pedestal, .filled⟩)

/-! ## One tile (R163, R167) -/

/-- A tile in progress: the state, and the pixels so far, the latest first. -/
structure RenderWork where
  s : State
  pixels : List OutPixel
  deriving DecidableEq, Repr

/-- Render local pixel `k` of a tile (R164). -/
def renderPixel (e : Ecc) (map : List (Option Region)) (pedestal tile k : Nat) (w : RenderWork) : RenderWork :=
  let p := w.s.format.pixelOfRecord (tile * 4096 + k)
  match (routeInTile (tileClass map w.s.format tile) (k % 64) (k / 64)).layer with
  | some l =>
    let x := layerPixel e map pedestal l p.1 p.2 w.s
    ⟨x.1, x.2 :: w.pixels⟩
  | none => ⟨w.s, ⟨none, pedestal, .plain⟩ :: w.pixels⟩

/-- The first `n` pixels of a render tile, computed in local raster order (R163 to R167 give no order: DESIGN CHOICE,
log 36). -/
def renderPixels (e : Ecc) (map : List (Option Region)) (pedestal tile n : Nat) (s : State) : RenderWork :=
  loop (renderPixel e map pedestal tile) n 0 ⟨s, []⟩

/-- The pixel is taken from a layer in which its tile is DAMAGED. -/
def OutPixel.damagedIn (s : State) (tile : Nat) (l : LayerId) (p : OutPixel) : Bool :=
  p.layer == some l && s.tileDamaged l tile

/-- A pixel of a layer in which the tile is DAMAGED renders as the pedestal, those already computed included (R167). -/
def OutPixel.settle (s : State) (tile pedestal : Nat) (p : OutPixel) : OutPixel :=
  if p.damagedIn s tile .sky || p.damagedIn s tile .ground then ⟨p.layer, pedestal, .plain⟩ else p

/-- The tile of the area that follows a tile, rows from top to bottom and columns from left to right (R163). -/
def Render.following (r : Render) (across tile : Nat) : Option Nat :=
  let col := tile % across
  let row := tile / across
  if col + 1 < r.tx + r.tw then some (tile + 1)
  else if row + 1 < r.ty + r.th then some ((row + 1) * across + r.tx)
  else none

/-- The record of a completed tile (R161, R163, R201). -/
def outTileOf (s : State) (r : Render) (map : List (Option Region)) (sky ground tile : Nat) (pixels : List OutPixel) :
    OutTile where
  kind := r.kind
  number := r.number
  skyStacked := sky
  groundStacked := ground
  damageSky := pixels.any (OutPixel.damagedIn s tile .sky)
  damageGround := pixels.any (OutPixel.damagedIn s tile .ground)
  cls := tileClass map s.format tile
  pedestal := r.pedestal
  clock := s.time.clock
  width := s.format.width
  height := s.format.height
  samples := pixels.map fun p => BitVec.ofInt 16 (p.settle s tile r.pedestal).value

/-- The render record after a tile (R163, R176). -/
def Render.afterTile (r : Render) (s : State) (tile : Nat) (out : OutTile) (pixels : List OutPixel) : Render :=
  let settled := pixels.map (OutPixel.settle s tile r.pedestal)
  { r with
    next := r.following s.format.tilesAcross tile
    tiles := r.tiles + 1
    filled := r.filled + settled.countP fun p => p.tally == .filled
    clipped := r.clipped + settled.countP fun p => p.tally == .clipped
    damaged := r.damaged + if out.damageSky || out.damageGround then 1 else 0 }

/-- Write a tile's record and set its ready flag. -/
def setOutTile (tile : Nat) (o : Option OutTile) (s : State) : State :=
  { s with finisher := { s.finisher with tiles := s.finisher.tiles.set none tile o } }

/-- The record of a tile, if its ready flag is set. -/
def Finisher.tile (f : Finisher) (tile : Nat) : Option OutTile := f.tiles.get none tile

/-- A render tile to its completion; the last of the area ends the render (R163, R176). -/
def runRenderTile (e : Ecc) (map : List (Option Region)) (sky ground tile : Nat) (r : Render) (s : State) : State :=
  let w := renderPixels e map r.pedestal tile 4096 s
  let pixels := w.pixels.reverse
  let out := outTileOf w.s r map sky ground tile pixels
  let r' := r.afterTile w.s tile out pixels
  let s := endJob (setOutTile tile (some out) w.s)
  match r'.next with
  | some _ => { s with finisher := { s.finisher with output := .rendering r' } }
  | none =>
    post (.render r'.kind r'.number r'.tiles r'.filled r'.clipped r'.damaged)
      { s with finisher := { s.finisher with output := .ready r' } }

/-! ## Starting a render (R162, R169, R171) -/

/-- Start a render over an area: every ready flag is cleared and the render record is formed with the next number. -/
def startRender (kind : RenderKind) (tx ty tw th : Nat) (s : State) : State :=
  let number := s.finisher.renderCounter + 1
  let r : Render :=
    { number := number.toNat, kind := kind, tx := tx, ty := ty, tw := tw, th := th, pedestal := s.finisher.pedestal
      next := some (ty * s.format.tilesAcross + tx), tiles := 0, filled := 0, clipped := 0, damaged := 0 }
  { s with finisher := { s.finisher with output := .rendering r, tiles := .nil, renderCounter := number } }

/-- The output buffer is RENDERING. -/
def Output.isRendering : Output → Bool
  | .rendering _ => true
  | .empty | .ready _ => false

end Sys2Proof.Machine
end

