-- ==== Sys2Proof/Machine/Stacker.lean ====
section
/-! DEFINITION. The stacker's computations (chapter 8): the background gate, what one sample adds, the two passes, the STACK
stage whole with RETIRE, layer clearing, and the TILE.STATUS computation. -/

namespace Sys2Proof.Machine

/-! ## The background gate (R149 to R151) -/

/-- B_k: the median background of the guides that were ACTIVE at MEASURE and found, outliers included (R149). -/
def backgroundK (ms : List Measured) : Option Int :=
  median (ms.filterMap fun m => if m.wasActive && m.result.verdict == .found then m.result.background else none)

/-- B_ref after B_k is formed (R150). -/
def updateBRef (bK bRef : Option Int) : Option Int :=
  match bK, bRef with
  | some k, some r => some (if k < r then k else r)
  | some k, none => some k
  | none, r => r

/-- The sky decision: the skip reason, NONE when the sky pass runs (R151). -/
def skyDecision (permission : Permission) (gateMargin : Nat) (bK bRef : Option Int) : SkySkip :=
  match permission with
  | .notLocked => .notLocked
  | .holdExpired => .holdExpired
  | .permitted =>
    match bK, bRef with
    | some k, some r => if 0 < gateMargin ∧ (gateMargin : Int) < k - r then .gate else .none
    | _, _ => .none

/-- Count a skip for its reason (R143, R151). -/
def Totals.countSkip (t : Totals) : SkySkip → Totals
  | .none => t
  | .notLocked => { t with skipNotLocked := t.skipNotLocked + 1 }
  | .holdExpired => { t with skipHoldExpired := t.skipHoldExpired + 1 }
  | .gate => { t with skipGate := t.skipGate + 1 }

/-- Step 1 of STACK: B_k, B_ref, the sky decision, and the pass counts at 0 (R152). -/
def openStack (b : Nat) (s : State) : State :=
  match s.buffer b with
  | none => s
  | some f =>
    let bK := backgroundK f.measured
    let bRef := updateBRef bK s.stacker.totals.bRef
    let skip := skyDecision f.permission s.stacker.settings.gateMargin bK bRef
    let totals := { s.stacker.totals with bRef := bRef }.countSkip skip
    { s with stacker := { s.stacker with totals := totals } }.setBuffer b
      (some { f with bK := bK, skySkip := skip, skyRejected := 0, skyClipped := 0, groundRejected := 0, groundClipped := 0 })

/-! ## What one sample adds (R144, R145) -/

/-- c is an outlier of a record with sum `sum` and count `n` (R145). -/
def isOutlier (k : StackSettings) (sum : Int) (n : Nat) (c : Int) : Bool :=
  decide ((k.kq : Int) ^ 2 * (256 * k.readVariance * (n : Int) ^ 2 + k.shot * max sum 0 * n) <
    65536 * (c * n - sum) ^ 2)

/-- The rejection test (R145). -/
def rejects (k : StackSettings) (r : Acc) (c : Int) : Bool :=
  match k.rejectMode with
  | .off => false
  | .high => decide (k.rejectMinCount ≤ r.count) && isOutlier k r.sum r.count c && decide (r.sum < c * r.count)
  | .both => decide (k.rejectMinCount ≤ r.count) && isOutlier k r.sum r.count c

/-- Steps 4 to 6 of an offer on the record as read (R144). -/
inductive Contribution where
  | clipped | rejected | added (r : Acc)
  deriving DecidableEq, Repr

/-- What a sample does to a record: white level, rejection, addition (R144). -/
def contribute (config : SessionConfig) (k : StackSettings) (raw : Nat) (c : Int) (r : Acc) : Contribution :=
  if config.atWhite raw then .clipped
  else if rejects k r c then .rejected
  else .added { r with sum := r.sum + c, count := r.count + 1 }

/-- Count a clipped sample of the pass in the sub-frame record. -/
def SubFrame.countClipped (f : SubFrame) : LayerId → SubFrame
  | .sky => { f with skyClipped := f.skyClipped + 1 }
  | .ground => { f with groundClipped := f.groundClipped + 1 }

/-- Count a rejected sample of the pass in the sub-frame record. -/
def SubFrame.countRejected (f : SubFrame) : LayerId → SubFrame
  | .sky => { f with skyRejected := f.skyRejected + 1 }
  | .ground => { f with groundRejected := f.groundRejected + 1 }

/-- The pass of a layer, as a read site. -/
def LayerId.pass : LayerId → ReadSite
  | .sky => .skyPass
  | .ground => .groundPass

/-- Apply what an offer does to its record and to the pass's counts. -/
def applyContribution (b : Nat) (l : LayerId) (address : Nat) (r : Acc) (x : Contribution) (s : State) : State :=
  match x with
  | .clipped =>
    { s with stacker := s.stacker.setRecord l address { r with clipped := true } }.modifyBuffer b
      fun f => f.countClipped l
  | .rejected => s.modifyBuffer b fun f => f.countRejected l
  | .added r' => { s with stacker := s.stacker.setRecord l address r' }

/-- Offer the pixel (sx, sy) of the sub-frame in buffer `b` to the record at `address` of a layer: the six steps of R144 in
order, with the memory errors of the reads they make (R59, R74, R154). -/
def offer (b : Nat) (e : Ecc) (l : LayerId) (address sx sy : Nat) (s : State) : State :=
  match s.buffer b with
  | none => s
  | some f =>
    let i := s.format.pixelIndex sx sy
    let sourceTile := s.format.tileOfPixel sx sy
    if s.tileDamaged l (address / 4096) then s
    else if s.calib.defects.contains i then s
    else
      let failed := darkFails e l.pass f.darkChoice i
      if !failed.isEmpty then applyDarkErrors (failed.map fun k => (k, sourceTile)) s
      else if readFails e l.pass (.staging (i / 4)) then noteStagingError b sourceTile s
      else if recordFails e l.pass l address then damageRecord e l.pass l address (some f.sequence) s
      else
        let r := s.stacker.record l address
        let c := calibrated (f.raw i) (s.calib.darkValue f.darkChoice i)
        applyContribution b l address r (contribute s.config s.stacker.settings (f.raw i) c r) s

/-! ## The passes (R146 to R148) -/

/-- How many pixels a pass visits: the pixels of every tile. -/
def Format.passLength (f : Format) : Nat := f.tileCount * 4096

/-- Visit `n` of the ground pass: the pixel of record address `n`, in tile index order and local raster order (R146). -/
def groundVisit (b : Nat) (e : Ecc) (n : Nat) (s : State) : State :=
  let p := s.format.pixelOfRecord n
  if routePixel s.regions s.format p.1 p.2 = .ground then offer b e .ground n p.1 p.2 s else s

/-- The target pixel of visit `n` of the sky pass: tiles in index order, cells in local raster order, pixels in Bayer order
(R147). -/
def Format.skyTarget (f : Format) (n : Nat) : Nat × Nat :=
  let tile := n / 4096
  let cell := n % 4096 / 4
  (tile % f.tilesAcross * 64 + cell % 32 * 2 + n % 2, tile / f.tilesAcross * 64 + cell / 32 * 2 + n % 4 / 2)

/-- The source pixel of a target pixel: the pixel of the same Bayer position of the cell that holds the target cell's centre
rotated by a pair about the tracker's pole (R147). -/
def Tracker.sourcePixel (t : Tracker) (sn cs : Int) (px py : Nat) : Int × Int :=
  let q := t.rotate sn cs (cellCentre (px / 2 : Nat) (py / 2 : Nat))
  let c := cellOf q.1 q.2
  (2 * c.1 + (px % 2 : Nat), 2 * c.2 + (py % 2 : Nat))

/-- Visit `n` of the sky pass (R147, R148). -/
def skyVisit (b : Nat) (e : Ecc) (n : Nat) (s : State) : State :=
  let p := s.format.skyTarget n
  match s.buffer b with
  | none => s
  | some f =>
    if routePixel s.regions s.format p.1 p.2 = .sky then
      let q := s.tracker.sourcePixel f.finS f.finC p.1 p.2
      if routePixel s.regions s.format q.1 q.2 = .sky then
        offer b e .sky (s.format.recordAddress p.1 p.2) q.1.toNat q.2.toNat s
      else s
    else s

/-- A pass completes: the session's and the stacker's counts rise, and the pass's rejected and clipped counts are added to the
totals (R146, R148). -/
def completePass (b : Nat) (l : LayerId) (s : State) : State :=
  match s.buffer b with
  | none => s
  | some f =>
    let t := s.stacker.totals
    match l with
    | .ground =>
      { s with
        session := { s.session with groundStacked := satAdd s.session.groundStacked 1 }
        stacker := { s.stacker with totals := { t with
          groundPasses := satAdd t.groundPasses 1
          groundRejected := satAdd t.groundRejected f.groundRejected
          groundClipped := satAdd t.groundClipped f.groundClipped } } }
    | .sky =>
      { s with
        session := { s.session with skyStacked := satAdd s.session.skyStacked 1 }
        stacker := { s.stacker with totals := { t with
          skyPasses := satAdd t.skyPasses 1
          skyRejected := satAdd t.skyRejected f.skyRejected
          skyClipped := satAdd t.skyClipped f.skyClipped } } }

/-- The first `n` visits of the ground pass. -/
def groundVisits (b : Nat) (e : Ecc) (n : Nat) (s : State) : State := loop (groundVisit b e) n 0 s

/-- The first `n` visits of the sky pass. -/
def skyVisits (b : Nat) (e : Ecc) (n : Nat) (s : State) : State := loop (skyVisit b e) n 0 s

/-- The ground pass to its completion (R146). -/
def groundPass (b : Nat) (e : Ecc) (s : State) : State :=
  completePass b .ground (groundVisits b e s.format.passLength s)

/-- The sky pass to its completion, when the decision was to run it (R147, R152). -/
def skyPass (b : Nat) (e : Ecc) (s : State) : State :=
  match s.buffer b with
  | some f =>
    match f.skySkip with
    | .none => completePass b .sky (skyVisits b e s.format.passLength s)
    | .notLocked | .holdExpired | .gate => s
  | none => s

/-- The STACK stage, steps 1 to 3 of R152. -/
def stackPasses (b : Nat) (e : Ecc) (s : State) : State := skyPass b e (groundPass b e (openStack b s))

/-! ## RETIRE (R54, R152) -/

/-- The SUBFRAME_DONE report of a record (R54). -/
def State.doneReport (s : State) (f : SubFrame) : Report :=
  .subframeDone
    { sequence := f.sequence, tMid := f.tMid, elapsed := s.elapsedOf f.tMid, state := s.tracker.state
      validCount := f.validCount, aK := f.aK, rate := s.tracker.rate, phaseError := f.phaseError, bK := f.bK
      darkChoice := f.darkChoice, noDark := f.noDark, skySkip := f.skySkip
      skyRejected := f.skyRejected, skyClipped := f.skyClipped
      groundRejected := f.groundRejected, groundClipped := f.groundClipped }

/-- RETIRE (R54): report, counts, buffer freed, end of CLOSING, held edits and settings. -/
def retire (b : Nat) (s : State) : State :=
  match s.buffer b with
  | none => s
  | some f =>
    let s := post (s.doneReport f) s
    let s := { s with session := { s.session with processed := satAdd s.session.processed 1
                                                  lastElapsed := some (s.elapsedOf f.tMid) } }
    applyHeldIfDue (testDrained (endJob (s.setBuffer b none)))

/-- What follows the passes: RETIRE, or the drop of a record that carries STAGING_ERROR (R59, R152). -/
def finishStack (b : Nat) (s : State) : State :=
  match s.buffer b with
  | none => s
  | some f => if f.stagingError then dropMemory b s else retire b s

/-- STACK abandoned after `units`: nothing at 0; then step 1 and the visits of the ground pass and of the sky pass in order, a
pass in flight not completed (R153, log 5). -/
def partialStack (b : Nat) (e : Ecc) (units : Nat) (s : State) : State :=
  match units with
  | 0 => s
  | visits + 1 =>
    let s := openStack b s
    let n := s.format.passLength
    if visits < n then groundVisits b e visits s
    else
      let s := groundPass b e s
      match s.buffer b with
      | some f =>
        match f.skySkip with
        | .none => skyVisits b e (min (visits - n) n) s
        | .notLocked | .holdExpired | .gate => s
      | none => s

/-! ## Layer clearing (R26) -/

/-- Every record of both layers cleared and every tile NORMAL (R26, R142). -/
def clearLayers (s : State) : State :=
  { s with stacker := { s.stacker with sky := .nil, ground := .nil, skyStatus := .nil, groundStatus := .nil
                                       statusDefined := true } }

/-! ## The TILE.STATUS computation (R160) -/

/-- A layer's part of the computation while its records are read: the counts so far, smallest and largest; absent once the
tile is DAMAGED. -/
def scanRecord (e : Ecc) (l : LayerId) (tile k : Nat) (x : State × Nat × Nat) : State × Nat × Nat :=
  let a := tile * 4096 + k
  if x.1.tileDamaged l tile then x
  else if recordFails e .tileStatus l a then (damageRecord e .tileStatus l a none x.1, x.2.1, x.2.2)
  else
    let n := (x.1.stacker.record l a).count
    (x.1, min x.2.1 n, max x.2.2 n)

/-- The first `n` records of a tile as the computation reads them, with the counts so far (R160). -/
def scanRecords (e : Ecc) (l : LayerId) (tile n : Nat) (s : State) : State × Nat × Nat :=
  loop (scanRecord e l tile) n 0 (s, 16000, 0)

/-- The computation abandoned after `units` records, those of the sky layer first (R61, R160, log 5). -/
def partialTileStatus (e : Ecc) (tile units : Nat) (s : State) : State :=
  (scanRecords e .ground tile (min (units - 4096) 4096) (scanRecords e .sky tile (min units 4096) s).1).1

/-- A layer's result for a tile (R160). -/
def layerReply (e : Ecc) (l : LayerId) (tile : Nat) (s : State) : State × LayerReply :=
  let x := scanRecords e l tile 4096 s
  match x.1.tileStatusOf l tile with
  | .normal => (x.1, .normal x.2.1 x.2.2)
  | .damaged q => (x.1, .damaged q)

end Sys2Proof.Machine
end

