-- ==== Sys2Proof/Machine/Abandon.lean ====
section
/-! DEFINITION. Work in flight that a command abandons (R50): what it had done by then (log 5), and both resets (R61, R199,
R200). -/

namespace Sys2Proof.Machine

/-- How many cells the finder visits. -/
def Format.cellCount (f : Format) : Nat := f.cellsAcross * f.cellsDown

/-- The decision that opens FIND: a scan clears the arming (R92). -/
def openScan (s : State) : State := { s with stars := { s.stars with armed := false } }

/-- TRACK abandoned after `units` guide outcomes (R36, R89): those entries stand as R90 and R91 leave them, and the tracker
stays as it was, since the stage did not complete (log 5). -/
def partialTrack (f : SubFrame) (units : Nat) (s : State) : State :=
  let x := trackOf s.tracker f
  applyOutcomes (sinScaled x.2.2.1) (cosScaled x.2.2.1) x.1.members (f.measured.take units) s

/-- FIND abandoned after `units`: nothing at 0; then the decision, the cells the finder visits if it scans, and after the last
of them the admissions of refill, one by one (R36, R92, R96, log 5). A staging error leaves no admission. -/
def partialFind (b : Nat) (e : Ecc) (f : SubFrame) (units : Nat) (s : State) : State :=
  match units with
  | 0 => s
  | done + 1 =>
    let cells := if finderScans s f then s.format.cellCount else 0
    let x := if finderScans s f then scanCells b e (min done cells) 0 (openScan s) else (s, false)
    if x.2 then x.1 else refill f.finS f.finC (min (done - cells) 12) x.1

/-- What a light sub-frame had done in its stage (R36, R59, R153): `units` counts guide slots taken in MEASURE, guide outcomes
applied in TRACK, and the parts of FIND and STACK (log 5). -/
def partialLight (b : Nat) (e : Ecc) (units : Nat) (s : State) : State :=
  match s.buffer b with
  | none => s
  | some f =>
    match f.stage with
    | .measure => (measureSlots b e (List.range (min units 12)) s).1
    | .track => partialTrack f units s
    | .find => partialFind b e f units s
    | .stack => partialStack b e units s
    | .arriving | .staged | .prepare | .darkAdd => s

/-- The accumulator records of a layer partition, sized for the largest format (R26, R141). -/
def layerRecords : Nat := Format.largest.width * Format.largest.height

/-- The first `n` records of a layer partition written to the cleared record (R26). -/
def clearRecords (l : LayerId) (n : Nat) (k : Stacker) : Stacker := loop (fun a k => k.setRecord l a Acc.zero) n 0 k

/-- Layer clearing stopped after `units` records (R26, R36, R141): those are cleared, the sky layer first and by address, and
the others stand (log 5); the tile status is undefined until the next clearing (log 8). -/
def partialClearing (units : Nat) (s : State) : State :=
  let k := clearRecords .ground (min (units - layerRecords) layerRecords)
    (clearRecords .sky (min units layerRecords) s.stacker)
  { s with freeSeed := s.freeSeed + 1, stacker := { k with statusDefined := false } }

/-- What the abandoned job had done (log 5). The counts of a finalization are lost here; DARK.ABORT reads them itself. -/
def partialJob (p : Progress) (s : State) : State :=
  match s.engine.job with
  | none => s
  | some (.light b) => partialLight b p.ecc p.units s
  | some (.dark b) => partialDarkAdd b p.ecc p.units s
  | some .finalization =>
    match s.calib.build with
    | some bd => (finalizePixels p.ecc bd (min p.units s.format.pixelCount) s).s
    | none => s
  | some (.renderTile tile map _ _) =>
    match s.finisher.output with
    | .rendering r => (renderPixels p.ecc map r.pedestal tile (min p.units 4096) s).s
    | .empty | .ready _ => s
  | some .clearing => partialClearing p.units s
  | some (.tileStatus tile) => partialTileStatus p.ecc tile p.units s

/-- The job in flight reads the stacked DRAM, so that it may meet an error. Layer clearing writes whole words and reads none
(R26), TRACK reads none, and a dark frame of no build is not read (R55). -/
def State.jobReads (s : State) : Bool :=
  match s.engine.job with
  | none | some .clearing => false
  | some (.light b) =>
    match (s.buffer b).map SubFrame.stage with
    | some .measure | some .find | some .stack => true
    | _ => false
  | some (.dark b) =>
    match s.buffer b with
    | some f => s.matchesBuild f
    | none => false
  | some .finalization | some (.tileStatus _) | some (.renderTile _ _ _ _) => true

/-- The memory errors and effects of the job up to its abandonment. -/
def abandonedWork (p : Progress) (s : State) : State := partialJob p (if s.jobReads then countCorrected p.ecc s else s)

/-! ## Soft reset (R199) -/

/-- A dark slot after a soft reset: READY and DAMAGED stay, a build is lost (R62). -/
def DarkSlot.afterSoft : DarkSlot → DarkSlot
  | .ready d => .ready d
  | .damaged d => .damaged d
  | .free | .building | .finalizing => .free

/-- The calibration unit after a soft reset (R62, R63, R75). -/
def Calibration.afterSoft (c : Calibration) : Calibration :=
  { c with slots := c.slots.map DarkSlot.afterSoft, build := none }

/-- The stacker after a soft reset: totals cleared, tile status undefined, layers and settings kept (R141 to R143, R156). -/
def Stacker.afterSoft (k : Stacker) : Stacker := { k with statusDefined := false, totals := Totals.zero }

/-- The star unit after a reset or SESSION.OPEN, which keep its settings (R85, R92, R95, R103). -/
def StarUnit.cleared (u : StarUnit) : StarUnit := ⟨List.replicate 12 none, [], 0, false, u.settings⟩

/-- Every block's soft reset, the reply slot apart (R199): the format, the session configuration, the dark library, the
defect and region lists, the settings, the counters for build and render numbers, the nap delay and the clock are kept. -/
def softReset (s : State) : State :=
  post (.reset .soft)
    { s with
      freeSeed := s.freeSeed + 1
      time := { s.time with progressDue := none }
      power := ⟨.run, false, s.power.napDelay, 0, false⟩
      link := { s.link with reports := [], overflow := false, overrun := false }
      eccCorrected := 0
      session := Session.cleared
      port := SensorPort.afterReset
      staging := List.replicate 3 none
      engine := Engine.afterReset
      calib := s.calib.afterSoft
      stars := s.stars.cleared
      tracker := Tracker.afterReset s.tracker.mode s.tracker.settings s.config
      stacker := s.stacker.afterSoft
      finisher := { s.finisher with output := .empty, tiles := .nil } }

/-! ## Hardware reset (R200) -/

/-- Every field at its hardware reset value; the contents of the layers and of the dark scratch partition stay as they are
(R141, log 7, log 30), and the waiting commands stay in the queue. -/
def hardwareReset (s : State) : State :=
  let r := State.reset
  { r with
    pending := s.pending
    freeSeed := s.freeSeed + 1
    calib := { r.calib with scratch := s.calib.scratch }
    stacker := { r.stacker with sky := s.stacker.sky, ground := s.stacker.ground } }

/-- How far the job in flight had got when the reset input stopped it: a free value (log 5). No error count of it outlives the
reset. -/
def State.resetProgress (s : State) : Progress := ⟨Config.resetUnits s.freeSeed, ⟨0, Config.resetErrors s.freeSeed⟩⟩

/-- The HARDWARE_RESET command: the part at the release of the reset input (R200, log 1). The job in flight is abandoned where it
stands, so the records of a layer or of the scratch that it had written keep their new values (R61, R153, log 5). -/
def execHardwareReset (s : State) : Host.Outcome State Fault Refusal :=
  .next (hardwareReset (abandonedWork s.resetProgress s))

end Sys2Proof.Machine
end

