-- ==== Sys2Proof/Decode.lean ====
section
/-! DEFINITION. Reading frames of the SPI target port and items of the sensor stream port into commands (R188, R189, R203,
R205), the encoder of request frames, and `decodeTableWord` (the opcode table gives no bits, so it reads nothing). -/

namespace Sys2Proof

/-- The kind code of each request (R203). -/
def Req.code : Req → Byte
  | .ping => 0x01 | .statusGet => 0x02 | .reportFetch => 0x03 | .systemReset => 0x04
  | .powerStandby => 0x08 | .powerSleep => 0x09 | .powerRun => 0x0A | .powerNap => 0x0B
  | .sensorFormat => 0x10 | .sessionConfigure => 0x11 | .sessionOpen => 0x12 | .sessionPause => 0x13
  | .sessionResume => 0x14 | .sessionClose => 0x15 | .sessionDiscard => 0x16 | .sessionInfo => 0x17
  | .darkBuild => 0x20 | .darkEnd => 0x21 | .darkAbort => 0x22 | .darkFree => 0x23 | .darkList => 0x24
  | .defectAdd => 0x28 | .defectRemove => 0x29 | .defectClear => 0x2A | .defectList => 0x2B
  | .starsFind => 0x30 | .guideList => 0x31 | .guideAdd => 0x32 | .guideDrop => 0x33
  | .candidateList => 0x34 | .starsConfigure => 0x35
  | .trackConfigure => 0x38 | .trackMode => 0x39 | .trackSetRate => 0x3A | .trackSetPole => 0x3B
  | .trackStatus => 0x3C | .trackClearLol => 0x3D
  | .regionSet => 0x40 | .regionClear => 0x41 | .regionList => 0x42
  | .stackConfigure => 0x48 | .stackStatus => 0x49 | .tileStatus => 0x4A
  | .finishStart => 0x50 | .previewArea => 0x51 | .outputRead => 0x52 | .outputRelease => 0x53
  | .finishConfigure => 0x54

/-- The 48 requests in the order of their codes. -/
def Req.all : List Req :=
  [.ping, .statusGet, .reportFetch, .systemReset, .powerStandby, .powerSleep, .powerRun, .powerNap,
   .sensorFormat, .sessionConfigure, .sessionOpen, .sessionPause, .sessionResume, .sessionClose, .sessionDiscard,
   .sessionInfo, .darkBuild, .darkEnd, .darkAbort, .darkFree, .darkList,
   .defectAdd, .defectRemove, .defectClear, .defectList,
   .starsFind, .guideList, .guideAdd, .guideDrop, .candidateList, .starsConfigure,
   .trackConfigure, .trackMode, .trackSetRate, .trackSetPole, .trackStatus, .trackClearLol,
   .regionSet, .regionClear, .regionList, .stackConfigure, .stackStatus, .tileStatus,
   .finishStart, .previewArea, .outputRead, .outputRelease, .finishConfigure]

/-- The request with a kind code, if the code is in the table (R192, R203). -/
def Req.ofCode (c : Byte) : Option Req :=
  Req.all.find? fun r => r.code == c

/-- No work in flight and no memory error: what the wire cannot say (log 5, log 6). -/
def Ecc.none : Ecc := ⟨0, []⟩

/-- As `Ecc.none`, for a command that abandons a job. -/
def Progress.none : Progress := ⟨0, Ecc.none⟩

/-- The command of a request. -/
def Req.toInstr (r : Req) (f : ReqFrame) : Instr :=
  match r with
  | .ping => .ping f
  | .statusGet => .statusGet f
  | .reportFetch => .reportFetch f
  | .systemReset => .systemReset f Progress.none
  | .powerStandby => .powerStandby f
  | .powerSleep => .powerSleep f
  | .powerRun => .powerRun f
  | .powerNap => .powerNap f
  | .sensorFormat => .sensorFormat f
  | .sessionConfigure => .sessionConfigure f
  | .sessionOpen => .sessionOpen f
  | .sessionPause => .sessionPause f
  | .sessionResume => .sessionResume f
  | .sessionClose => .sessionClose f
  | .sessionDiscard => .sessionDiscard f Progress.none
  | .sessionInfo => .sessionInfo f
  | .darkBuild => .darkBuild f
  | .darkEnd => .darkEnd f
  | .darkAbort => .darkAbort f Progress.none
  | .darkFree => .darkFree f
  | .darkList => .darkList f
  | .defectAdd => .defectAdd f
  | .defectRemove => .defectRemove f
  | .defectClear => .defectClear f
  | .defectList => .defectList f
  | .starsFind => .starsFind f
  | .guideList => .guideList f
  | .guideAdd => .guideAdd f
  | .guideDrop => .guideDrop f
  | .candidateList => .candidateList f
  | .starsConfigure => .starsConfigure f
  | .trackConfigure => .trackConfigure f
  | .trackMode => .trackMode f
  | .trackSetRate => .trackSetRate f
  | .trackSetPole => .trackSetPole f
  | .trackStatus => .trackStatus f
  | .trackClearLol => .trackClearLol f
  | .regionSet => .regionSet f
  | .regionClear => .regionClear f
  | .regionList => .regionList f
  | .stackConfigure => .stackConfigure f
  | .stackStatus => .stackStatus f
  | .tileStatus => .tileStatus f
  | .finishStart => .finishStart f
  | .previewArea => .previewArea f
  | .outputRead => .outputRead f Ecc.none
  | .outputRelease => .outputRelease f Progress.none
  | .finishConfigure => .finishConfigure f

/-- The first byte of a request frame (R188, R202). -/
def startByte : Byte := 0xA5

/-- The length field of a request frame: the payload in 4-byte words, low byte first (R202). -/
def lengthField (lo hi : Byte) : Nat := lo.toNat + 256 * hi.toNat

/-- The bytes of a frame whose first byte is the start byte, read as a command when RDY is high (R189, R192). `after` is what
follows the start byte. A frame with fewer than five bytes, a length field above 64 or too few payload bytes is short. -/
def decodeRequest (after : List Byte) : Instr :=
  match after with
  | kind :: tag :: lo :: hi :: rest =>
    let n := 4 * lengthField lo hi
    if 64 < lengthField lo hi ∨ rest.length < n then .shortRequestFrame (startByte :: after)
    else
      let f : ReqFrame := ⟨tag, rest.take n, rest.length - n⟩
      match Req.ofCode kind with
      | some r => r.toInstr f
      | none => .unknownKindRequest kind f
  | _ => .shortRequestFrame (startByte :: after)

/-- A frame on the SPI target port read as a command, by its bytes and RDY (R188, R191). -/
def decodeFrame (rdy : Bool) (bytes : List Byte) : Instr :=
  match bytes with
  | [] => .replyReadFrame 0
  | b :: after =>
    if b = startByte then
      if rdy then decodeRequest after else .requestFrameWhileBusy bytes.length
    else .replyReadFrame bytes.length

/-- The bytes of a request frame (R202): start byte, kind, tag, length in 4-byte words, payload, and `trailing` ignored bytes,
sent as zeros. -/
def encodeRequest (kind : Byte) (f : ReqFrame) : List Byte :=
  let n := f.payload.length / 4
  startByte :: kind :: f.tag :: BitVec.ofNat 8 n :: BitVec.ofNat 8 (n / 256) ::
    (f.payload ++ List.replicate f.trailing 0)

/-- The first words of the three items of the sensor stream (R205). -/
def headerWord : Half := 0xC1A0
/-- See `headerWord`. -/
def rowWord : Half := 0xC1A1
/-- See `headerWord`. -/
def endWord : Half := 0xC1AF

/-- An item of the sensor stream read as a command by its first word (R39, R205). Words after an end marker's first are
ignored (log 15). -/
def decodeItem (words : List Half) : Instr :=
  match words with
  | [] => .sensorUnknownItem []
  | w :: rest =>
    if w = headerWord then .sensorHeader rest
    else if w = rowWord then .sensorRow rest
    else if w = endWord then .sensorEndMarker
    else .sensorUnknownItem words

/-- The words of a sensor item (R205), for the four commands of the sensor stream. -/
def encodeItem : Instr → Option (List Half)
  | .sensorHeader ws => some (headerWord :: ws)
  | .sensorRow ws => some (rowWord :: ws)
  | .sensorEndMarker => some [endWord]
  | .sensorUnknownItem ws => some ws
  | _ => none

/-- The command that a word of the opcode table's bits spells. The table gives no row any bits: commands reach the part as
frames, items and events, so no word spells one. -/
def decodeTableWord (_nbits _w : Nat) : Option Instr := none

end Sys2Proof
end

