-- ==== Sys2Proof/Machine/Operands.lean ====
section
/-! DEFINITION. The operands of the requests: the fields of a payload, packed little-endian with the sizes of R193. A reader
answers none when the payload is too short to hold the fields (BAD_LENGTH, R192). -/

namespace Sys2Proof.Machine

/-- A little-endian number (R193). -/
def leNat : List Byte → Nat
  | [] => 0
  | b :: bs => b.toNat + 256 * leNat bs

/-- A reader of fields: the value and the bytes that follow, or none when the bytes run out. -/
abbrev Reader (α : Type) : Type := List Byte → Option (α × List Byte)

/-- Read an unsigned field of `n` bytes. -/
def readU (n : Nat) : Reader Nat := fun bs =>
  if bs.length < n then none else some (leNat (bs.take n), bs.drop n)

/-- Read a signed field of four bytes. -/
def readS : Reader Int := fun bs =>
  if bs.length < 4 then none else some ((BitVec.ofNat 32 (leNat (bs.take 4))).toInt, bs.drop 4)

/-- Read an optional field: it is carried when its bit of the presence mask is set (R193). -/
def readOpt {α : Type} (mask k : Nat) (r : Reader α) : Reader (Option α) := fun bs =>
  if mask.testBit k then (r bs).map fun x => (some x.1, x.2) else some (none, bs)

/-- No fields: any payload holds them. -/
def readNothing (_ : List Byte) : Option Unit := some ()

/-- One unsigned field of `n` bytes. -/
def readOne (n : Nat) (bs : List Byte) : Option Nat := (readU n bs).map Prod.fst

/-- Two signed fields (a position in cs). -/
def readPosition (bs : List Byte) : Option (Int × Int) := do
  let (x, bs) ← readS bs
  let (y, _) ← readS bs
  some (x, y)

/-- Two unsigned fields of four bytes. -/
def readPair (bs : List Byte) : Option (Nat × Nat) := do
  let (x, bs) ← readU 4 bs
  let (y, _) ← readU 4 bs
  some (x, y)

/-- The nine fields of SESSION.CONFIGURE (R22). -/
def readSessionConfig (bs : List Byte) : Option SessionConfig := do
  let (exposure, bs) ← readU 4 bs
  let (offset, bs) ← readU 4 bs
  let (white, bs) ← readU 4 bs
  let (rate, bs) ← readS bs
  let (px, bs) ← readS bs
  let (py, bs) ← readS bs
  let (subframes, bs) ← readU 4 bs
  let (duration, bs) ← readU 4 bs
  let (bit, _) ← readU 4 bs
  some ⟨exposure, offset, white, rate, px, py, subframes, duration, bit⟩

/-- POWER.RUN: the optional slept_ms, 0 when absent (R186). -/
def readPowerRun (bs : List Byte) : Option Nat := do
  let (mask, bs) ← readU 4 bs
  let (slept, _) ← readOpt mask 0 (readU 4) bs
  some (slept.getD 0)

/-- DARK.BUILD: the optional slot and hot_level (R64). -/
def readDarkBuild (bs : List Byte) : Option (Option Nat × Option Nat) := do
  let (mask, bs) ← readU 4 bs
  let (slot, bs) ← readOpt mask 0 (readU 1) bs
  let (hot, _) ← readOpt mask 1 (readU 4) bs
  some (slot, hot)

/-- The pixel positions of a DEFECT request: the entries that fill the payload, a last part of one ignored (R193). -/
def readPixels2 : List Byte → List (Nat × Nat)
  | a :: b :: c :: d :: rest => (leNat [a, b], leNat [c, d]) :: readPixels2 rest
  | _ => []

/-- The list of a DEFECT request (R193). -/
def readPixelList (bs : List Byte) : Option (List (Nat × Nat)) := some (readPixels2 bs)

/-- One gain set: four one-byte values (R193). -/
def readGains : Reader Gains := fun bs => do
  let (pm, bs) ← readU 1 bs
  let (ps, bs) ← readU 1 bs
  let (im, bs) ← readU 1 bs
  let (is, bs) ← readU 1 bs
  some (⟨pm, ps, im, is⟩, bs)

/-- The thirteen optional fields of TRACK.CONFIGURE, as sent (R122). max_step and outlier_gate are read as unsigned limits, not
as R193's signed angles (DESIGN CHOICE, log 33). -/
def readTrackFields (bs : List Byte) : Option TrackFields := do
  let (mask, bs) ← readU 4 bs
  let (acquire, bs) ← readOpt mask 0 readGains bs
  let (normal, bs) ← readOpt mask 1 readGains bs
  let (maxStep, bs) ← readOpt mask 2 (readU 4) bs
  let (slope, bs) ← readOpt mask 3 (readU 4) bs
  let (lock, bs) ← readOpt mask 4 (readU 4) bs
  let (unlock, bs) ← readOpt mask 5 (readU 4) bs
  let (gate, bs) ← readOpt mask 6 (readU 4) bs
  let (span, bs) ← readOpt mask 7 (readU 4) bs
  let (guides, bs) ← readOpt mask 8 (readU 4) bs
  let (refill, bs) ← readOpt mask 9 (readU 4) bs
  let (history, bs) ← readOpt mask 10 (readU 4) bs
  let (limit, bs) ← readOpt mask 11 (readU 4) bs
  let (lol, _) ← readOpt mask 12 (readU 4) bs
  some { acquire := acquire, normal := normal, maxStep := maxStep, rateSlopeLimit := slope, lockThreshold := lock
         unlockThreshold := unlock, outlierGate := gate, lockSpan := span, minGuides := guides, refillLevel := refill
         holdoverHistory := history, holdoverLimit := limit, lolThreshold := lol }

/-- A gain set clamped to its ranges (R105, R122). -/
def Gains.clamped (g : Gains) : Gains := ⟨min g.pMult 255, min g.pShift 24, min g.iMult 255, min g.iShift 24⟩

/-- The fields of TRACK.CONFIGURE clamped to their ranges on receipt (R122). -/
def TrackFields.clamped (f : TrackFields) : TrackFields where
  acquire := f.acquire.map Gains.clamped
  normal := f.normal.map Gains.clamped
  maxStep := f.maxStep.map (clampN 0 10000000)
  rateSlopeLimit := f.rateSlopeLimit.map (clampN 0 10000)
  lockThreshold := f.lockThreshold.map (clampN 0 10000000)
  unlockThreshold := f.unlockThreshold.map (clampN 0 10000000)
  outlierGate := f.outlierGate.map (clampN 0 100000000)
  lockSpan := f.lockSpan.map (clampN 2 64)
  minGuides := f.minGuides.map (clampN 2 12)
  refillLevel := f.refillLevel.map (clampN 2 12)
  holdoverHistory := f.holdoverHistory.map (clampN 0 16)
  holdoverLimit := f.holdoverLimit.map (clampN 0 1000)
  lolThreshold := f.lolThreshold.map (clampN 0 15)

/-- The three optional fields of STARS.CONFIGURE (R103). -/
def readStarFields (bs : List Byte) : Option StarPending := do
  let (mask, bs) ← readU 4 bs
  let (star, bs) ← readOpt mask 0 (readU 4) bs
  let (flux, bs) ← readOpt mask 1 (readU 4) bs
  let (find, _) ← readOpt mask 2 (readU 4) bs
  some ⟨star, flux, find⟩

/-- The fields of STARS.CONFIGURE clamped to their ranges (R103). -/
def StarPending.clamped (f : StarPending) : StarPending :=
  ⟨f.starThreshold.map (clampN 0 262128), f.minFlux.map (clampN 1 100000000), f.findThreshold.map (clampN 1 262128)⟩

/-- The seven optional fields of STACK.CONFIGURE as sent, the reject mode as its code (R157). -/
structure StackFields where
  rejectMode : Option Nat
  kq : Option Nat
  readVariance : Option Nat
  shot : Option Nat
  rejectMinCount : Option Nat
  gateMargin : Option Nat
  acquiring : Option Nat
  deriving DecidableEq, Repr

/-- Read the fields of STACK.CONFIGURE (R157, R193). -/
def readStackFields (bs : List Byte) : Option StackFields := do
  let (mask, bs) ← readU 4 bs
  let (mode, bs) ← readOpt mask 0 (readU 1) bs
  let (kq, bs) ← readOpt mask 1 (readU 4) bs
  let (r, bs) ← readOpt mask 2 (readU 4) bs
  let (shot, bs) ← readOpt mask 3 (readU 4) bs
  let (count, bs) ← readOpt mask 4 (readU 4) bs
  let (gate, bs) ← readOpt mask 5 (readU 4) bs
  let (acquiring, _) ← readOpt mask 6 (readU 1) bs
  some ⟨mode, kq, r, shot, count, gate, acquiring⟩

/-- The reject mode of a code (R204). -/
def rejectModeOf (n : Nat) : Option RejectMode :=
  match n with
  | 0 => some .off
  | 1 => some .high
  | 2 => some .both
  | _ => none

/-- The fields of STACK.CONFIGURE with the numbers clamped (R156, R157); none when the reject mode code is unknown. -/
def StackFields.pending (f : StackFields) : Option StackPending :=
  let rest : StackPending :=
    { rejectMode := none
      kq := f.kq.map (clampN 16 160)
      readVariance := f.readVariance.map (clampN 0 1048575)
      shot := f.shot.map (clampN 0 65535)
      rejectMinCount := f.rejectMinCount.map (clampN 2 255)
      gateMargin := f.gateMargin.map (clampN 0 262128)
      stackWhileAcquiring := f.acquiring.map fun x => x != 0 }
  match f.rejectMode with
  | none => some rest
  | some code => (rejectModeOf code).map fun m => { rest with rejectMode := some m }

/-- The tracker mode of a code (R204). -/
def trackModeOf (n : Nat) : Option TrackMode :=
  match n with
  | 0 => some .auto
  | 1 => some .freerun
  | 2 => some .holdover
  | 3 => some .manual
  | _ => none

/-- The fields of REGION.SET as sent: the class as its code, the cut if carried (R135). -/
structure RegionFields where
  index : Nat
  tx : Nat
  ty : Nat
  tw : Nat
  th : Nat
  cls : Nat
  cut : Option (Nat × Nat)
  deriving DecidableEq, Repr

/-- The cut of REGION.SET: yl and yr, four bytes each (R193). -/
def readCut : Reader (Nat × Nat) := fun bs => do
  let (yl, bs) ← readU 4 bs
  let (yr, bs) ← readU 4 bs
  some ((yl, yr), bs)

/-- Read the fields of REGION.SET (R193). -/
def readRegion (bs : List Byte) : Option RegionFields := do
  let (mask, bs) ← readU 4 bs
  let (index, bs) ← readU 4 bs
  let (tx, bs) ← readU 2 bs
  let (ty, bs) ← readU 2 bs
  let (tw, bs) ← readU 2 bs
  let (th, bs) ← readU 2 bs
  let (cls, bs) ← readU 1 bs
  let (cut, _) ← readOpt mask 0 readCut bs
  some ⟨index, tx, ty, tw, th, cls, cut⟩

/-- The class of a REGION.SET, if its code and cut pass checks 2 and 4 (R135, R204). -/
def RegionFields.tileClass (f : RegionFields) : Option TileClass :=
  match f.cls with
  | 0 => some .sky
  | 1 => some .ground
  | 2 =>
    match f.cut with
    | some (yl, yr) => if yl ≤ 64 ∧ yr ≤ 64 then some (.horizon yl yr) else none
    | none => none
  | 3 => some .exclude
  | _ => none

/-- The area of PREVIEW.AREA (R170). -/
structure AreaFields where
  tx : Nat
  ty : Nat
  tw : Nat
  th : Nat
  deriving DecidableEq, Repr

/-- Read the area of PREVIEW.AREA (R193). -/
def readArea (bs : List Byte) : Option AreaFields := do
  let (tx, bs) ← readU 2 bs
  let (ty, bs) ← readU 2 bs
  let (tw, bs) ← readU 2 bs
  let (th, _) ← readU 2 bs
  some ⟨tx, ty, tw, th⟩

/-- The value ALL of REGION.CLEAR (R193). -/
def allRegions : Nat := 0xFFFFFFFF

end Sys2Proof.Machine
end

