-- ==== Sys2Proof/Machine/Wire.lean ====
section
/-! DEFINITION. The bytes of a reply frame (section 11.6): codes (R204), report records (R206), the output tile header (R207)
and the payload of each reply (R193). -/

namespace Sys2Proof.Machine

/-! ## Numbers (R193) -/

/-- `n` bytes of a number, low byte first. -/
def leBytes : Nat → Nat → List Byte
  | 0, _ => []
  | n + 1, x => BitVec.ofNat 8 x :: leBytes n (x / 256)

/-- Four bytes of a signed number. -/
def signed4 (x : Int) : List Byte := leBytes 4 (BitVec.ofInt 32 x).toNat

/-- Four bytes of an unsigned number. -/
def num4 (x : Nat) : List Byte := leBytes 4 x

/-- A flag. -/
def flag (b : Bool) : List Byte := [if b then 1 else 0]

/-- An optional field: presence byte and value; an absent value still takes its `n` bytes (R193). -/
def optional {α : Type} (n : Nat) (bytes : α → List Byte) : Option α → List Byte
  | some x => 1 :: bytes x
  | none => 0 :: List.replicate n 0

/-- A list: a 2-byte count and the entries (R193). -/
def counted {α : Type} (bytes : α → List Byte) (xs : List α) : List Byte := leBytes 2 xs.length ++ xs.flatMap bytes

/-! ## Codes (R204) -/

/-- Status codes. -/
def Status.code : Status → Byte
  | .ok => 0x00 | .started => 0x01 | .badKind => 0x10 | .badLength => 0x11 | .badValue => 0x12 | .wrongState => 0x13
  | .noSpace => 0x14 | .busy => 0x15 | .notReady => 0x16 | .dataError => 0x17 | .asleep => 0x18

/-- Session state codes. -/
def SessionState.code : SessionState → Byte
  | .idle => 0 | .opening => 1 | .armed => 2 | .integrating => 3 | .paused => 4 | .closing => 5 | .closed => 6

/-- Session reason codes. -/
def SessionReason.code : SessionReason → Byte
  | .request => 1 | .cleared => 2 | .reference => 3 | .referenceLost => 4 | .countLimit => 5 | .timeLimit => 6
  | .drained => 7

/-- Tracker state codes. -/
def TrackState.code : TrackState → Byte
  | .freerun => 0 | .acquire => 1 | .converge => 2 | .locked => 3 | .holdover => 4 | .manual => 5

/-- Tracker mode codes. -/
def TrackMode.code : TrackMode → Byte
  | .auto => 0 | .freerun => 1 | .holdover => 2 | .manual => 3

/-- Tracker cause codes. -/
def TrackCause.code : TrackCause → Byte
  | .guides => 1 | .insufficient => 2 | .converging => 3 | .lock => 4 | .error => 5 | .unlock => 6 | .mode => 7
  | .resume => 8 | .span => 9

/-- Drop reason codes; 0 is none. -/
def DropReason.code : DropReason → Byte
  | .format => 1 | .noConsumer => 2 | .kind => 3 | .clearing => 4 | .paused => 5 | .exposure => 6 | .limit => 7
  | .noBuffer => 8 | .malformed => 9 | .memory => 10

/-- Malformation codes; 0 is none. -/
def Malformation.code : Option Malformation → Byte
  | none => 0
  | some .rowOrder => 1
  | some .rowLength => 2
  | some .short => 3
  | some .missingEnd => 4

/-- Sky skip reason codes. -/
def SkySkip.code : SkySkip → Byte
  | .none => 0 | .notLocked => 1 | .holdExpired => 2 | .gate => 3

/-- Guide event codes. -/
def GuideEvent.code : GuideEvent → Byte
  | .admitted => 1 | .active => 2 | .retired => 3 | .refused => 4

/-- Guide reason codes; 0 is none. -/
def GuideReason.code : Option GuideReason → Byte
  | none => 0
  | some .geometry => 1
  | some .missed => 2
  | some .probationMiss => 3
  | some .crowded => 4
  | some .dropped => 5
  | some .full => 6
  | some .radius => 7
  | some .window => 8

/-- Guide outcome codes. R204 lists none: DESIGN CHOICE (log 18), in the order of R85. -/
def GuideOutcome.code : GuideOutcome → Byte
  | .found => 0 | .notFound => 1 | .saturated => 2 | .outlier => 3

/-- Dark event codes. -/
def DarkEvent.code : DarkEvent → Byte
  | .ready => 1 | .empty => 2 | .aborted => 3

/-- Tile class codes. -/
def TileClass.code : TileClass → Byte
  | .sky => 0 | .ground => 1 | .horizon _ _ => 2 | .exclude => 3

/-- The cut of a class, zeros for a class other than HORIZON (R201). -/
def TileClass.cut : TileClass → Nat × Nat
  | .horizon yl yr => (yl, yr)
  | .sky | .ground | .exclude => (0, 0)

/-- Render kind codes. -/
def RenderKind.code : RenderKind → Byte
  | .finish => 1 | .preview => 2

/-- Partition codes. -/
def Partition.code : Partition → Byte
  | .staging => 1 | .skyLayer => 2 | .groundLayer => 3 | .darkLibrary => 4 | .darkScratch => 5 | .output => 6

/-- Power state codes. -/
def PowerState.code : PowerState → Byte
  | .run => 0 | .standby => 1 | .sleep => 2

/-- Power cause codes. -/
def PowerCause.code : PowerCause → Byte
  | .request => 0 | .nap => 1 | .header => 2 | .link => 3

/-- Reset cause codes. -/
def ResetCause.code : ResetCause → Byte
  | .hardware => 1 | .soft => 2

/-! ## Report records (R206) -/

/-- A dark slot number on the wire, 0xFF where there is none. -/
def slotByte : Option Nat → Byte
  | some k => BitVec.ofNat 8 k
  | none => 0xFF

/-- The slots used and slots A and B of a dark choice (R206). -/
def DarkChoice.bytes (c : DarkChoice) : List Byte :=
  [BitVec.ofNat 8 c.slots.length, slotByte c.slots[0]?, slotByte c.slots[1]?]

/-- The presence byte of a SUBFRAME_DONE report (R206). -/
def DoneReport.presence (r : DoneReport) : Byte :=
  BitVec.ofNat 8 ((if r.phaseError.isSome then 1 else 0) + (if r.bK.isSome then 2 else 0) + if r.noDark then 4 else 0)

/-- The fields of a SUBFRAME_DONE report (R206). -/
def DoneReport.bytes (r : DoneReport) : List Byte :=
  leBytes 2 r.sequence ++ [r.presence] ++ num4 r.tMid.toNat ++ num4 r.elapsed.toNat ++
  [r.state.code, BitVec.ofNat 8 r.validCount] ++ signed4 r.aK ++ signed4 r.rate ++ signed4 (r.phaseError.getD 0) ++
  signed4 (r.bK.getD 0) ++ r.darkChoice.bytes ++ [r.skySkip.code] ++ num4 r.skyRejected ++ num4 r.skyClipped ++
  num4 r.groundRejected ++ num4 r.groundClipped

/-- The kind byte and the fields of a report (R206). -/
def Report.bytes : Report → Byte × List Byte
  | .subframeDone r => (0x01, r.bytes)
  | .subframeDropped sequence reason m => (0x02, leBytes 2 sequence ++ [reason.code, Malformation.code m])
  | .track old new cause => (0x03, [old.code, new.code, cause.code])
  | .guide slot event reason => (0x04, [slotByte slot, event.code, GuideReason.code reason])
  | .dark slot event added notAdded => (0x05, [BitVec.ofNat 8 slot, event.code] ++ leBytes 2 added ++ num4 notAdded)
  | .session state reason => (0x06, [state.code, reason.code])
  | .render kind number tiles filled clipped damaged =>
    (0x07, [kind.code] ++ leBytes 2 number ++ leBytes 2 tiles ++ num4 filled ++ num4 clipped ++ leBytes 2 damaged)
  | .memory partition slot tile => (0x08, [partition.code, slotByte slot] ++ leBytes 2 tile)
  | .power state cause => (0x09, [state.code, cause.code])
  | .progress elapsed accepted processed sky ground dropped tracker =>
    (0x0A, num4 elapsed.toNat ++ num4 accepted ++ num4 processed ++ num4 sky ++ num4 ground ++ num4 dropped ++
      [tracker.code])
  | .reset cause => (0x0B, [cause.code])
  | .calibration width height slots defects regions =>
    (0x0C, leBytes 2 width ++ leBytes 2 height ++ [BitVec.ofNat 8 slots] ++ leBytes 2 defects ++ [BitVec.ofNat 8 regions])

/-- A report record: kind, field length, clock stamp, fields (R206). -/
def Stamped.bytes (r : Stamped) : List Byte :=
  let x := r.report.bytes
  x.1 :: BitVec.ofNat 8 x.2.length :: num4 r.stamp.toNat ++ x.2

/-! ## Payloads (R193) -/

/-- The payload of STATUS.GET (R198). -/
def StatusReply.bytes (r : StatusReply) : List Byte :=
  [r.power.code] ++ flag r.pendingStandby ++ [r.session.code, r.tracker.code] ++ flag r.engineBusy ++ num4 r.freeBuffers ++
  num4 r.queueLength ++
  (match r.dropped with
   | some (sequence, reason) => 1 :: leBytes 2 sequence ++ [reason.code]
   | none => [0, 0, 0, 0]) ++
  flag r.lolLimit ++ flag r.reportOverflow ++ flag r.linkOverrun ++ num4 r.dropTotal.toNat ++ num4 r.eccCorrected

/-- The payload of SESSION.INFO (R37). -/
def Session.bytes (r : Session) (outstanding : Nat) : List Byte :=
  [r.state.code] ++ num4 r.accepted ++ num4 r.processed ++ num4 r.skyStacked ++ num4 r.groundStacked ++ num4 r.dropped ++
  optional 4 (fun t : Time => num4 t.toNat) r.tRef ++ optional 4 (fun t : Time => num4 t.toNat) r.lastElapsed ++
  num4 outstanding

/-- One slot of DARK.LIST (R71). -/
def SlotReply.bytes : SlotReply → List Byte
  | .free => [0]
  | .building finalizing b =>
    [if finalizing then 2 else 1] ++ num4 b.number ++ flag b.accepting ++ optional 4 num4 b.exposureMs ++ num4 b.added ++
    num4 b.outstanding ++ num4 b.hotLevel
  | .held damaged temperature exposure frames inUse =>
    [if damaged then 4 else 3] ++ signed4 temperature ++ num4 exposure ++ num4 frames ++ flag inUse

/-- One slot of GUIDE.LIST (R85, R101): EMPTY 0, PROBATION 1, ACTIVE 2 (DESIGN CHOICE, log 18). -/
def guideBytes : Option Guide → List Byte
  | none => [0]
  | some g =>
    [match g.state with | .probation => 1 | .active => 2] ++ signed4 g.refX ++ signed4 g.refY ++ signed4 g.admissionFlux ++
    optional 8 (fun c : Int × Int => signed4 c.1 ++ signed4 c.2) g.centroid ++ optional 4 signed4 g.error ++
    optional 4 signed4 g.background ++ num4 g.missRun ++ num4 g.probationCount ++
    optional 1 (fun o : GuideOutcome => [o.code]) g.outcome

/-- One record of CANDIDATE.LIST (R94, R102). -/
def Candidate.bytes (c : Candidate) : List Byte :=
  signed4 c.refX ++ signed4 c.refY ++ signed4 c.flux ++ leBytes 2 c.sequence ++ num4 c.admission

/-- A gain set of the TRACK.STATUS reply, in the order that R193 gives for the request's gain sets (R127; DESIGN CHOICE,
log 18). -/
def Gains.bytes (g : Gains) : List Byte :=
  [BitVec.ofNat 8 g.pMult, BitVec.ofNat 8 g.pShift, BitVec.ofNat 8 g.iMult, BitVec.ofNat 8 g.iShift]

/-- The settings record in a TRACK.STATUS reply, in the order of R105. -/
def TrackSettings.bytes (s : TrackSettings) : List Byte :=
  s.acquire.bytes ++ s.normal.bytes ++ num4 s.maxStep ++ num4 s.rateSlopeLimit ++ num4 s.lockThreshold ++
  num4 s.unlockThreshold ++ num4 s.outlierGate ++ num4 s.lockSpan ++ num4 s.minGuides ++ num4 s.refillLevel ++
  num4 s.holdoverHistory ++ num4 s.holdoverLimit ++ num4 s.lolThreshold ++ signed4 s.manualRate

/-- The payload of TRACK.STATUS (R127). -/
def Tracker.bytes (t : Tracker) : List Byte :=
  signed4 t.a ++ num4 t.rem ++ num4 t.tLast.toNat ++ signed4 t.rate ++ signed4 t.poleX ++ signed4 t.poleY ++
  [t.mode.code, t.state.code] ++ num4 t.lockRun ++ num4 t.holdRun ++ num4 t.lolCount ++ flag t.lolLimit ++
  counted signed4 t.history ++ optional 4 signed4 t.largestI ++ optional 4 signed4 t.smallestI ++
  optional 4 num4 t.largestP ++ optional 4 num4 t.fewestValid ++ t.settings.bytes

/-- One entry of REGION.LIST: index, rectangle, class and, for HORIZON, the cut (R139). -/
def regionBytes (e : Nat × Region) : List Byte :=
  num4 e.1 ++ leBytes 2 e.2.tx ++ leBytes 2 e.2.ty ++ leBytes 2 e.2.tw ++ leBytes 2 e.2.th ++ [e.2.cls.code] ++
  match e.2.cls with
  | .horizon yl yr => 1 :: num4 yl ++ num4 yr
  | .sky | .ground | .exclude => 0 :: List.replicate 8 0

/-- The payload of STACK.STATUS (R158); the rejected and clipped totals stand in the order of R143 (DESIGN CHOICE, log 18). -/
def Totals.bytes (t : Totals) : List Byte :=
  num4 t.skyPasses ++ num4 t.groundPasses ++ num4 t.skyRejected ++ num4 t.groundRejected ++ num4 t.skyClipped ++
  num4 t.groundClipped ++ num4 t.skipNotLocked ++ num4 t.skipHoldExpired ++ num4 t.skipGate ++ num4 t.damagedSky ++
  num4 t.damagedGround ++ optional 4 signed4 t.bRef

/-- One layer of TILE.STATUS (R160): status NORMAL 0 or DAMAGED 1, the damage sequence, the smallest and the largest count, each
an optional field of its own (DESIGN CHOICE, log 18). -/
def LayerReply.bytes : LayerReply → List Byte
  | .normal smallest largest => [0] ++ optional 2 (leBytes 2) none ++ optional 4 num4 (some smallest) ++
    optional 4 num4 (some largest)
  | .damaged q => [1] ++ optional 2 (leBytes 2) q ++ optional 4 num4 none ++ optional 4 num4 none

/-- The damage flags of an output tile header: bit 0 sky, bit 1 ground (R207). -/
def OutTile.damageFlags (t : OutTile) : Byte :=
  BitVec.ofNat 8 ((if t.damageSky then 1 else 0) + if t.damageGround then 2 else 0)

/-- The 32-byte header of the output tile record (R207). -/
def OutTile.header (t : OutTile) (tile tx ty : Nat) : List Byte :=
  [32, t.kind.code] ++ leBytes 2 t.number ++ leBytes 2 tile ++ leBytes 2 tx ++ leBytes 2 ty ++
  [t.damageFlags, t.cls.code, BitVec.ofNat 8 t.cls.cut.1, BitVec.ofNat 8 t.cls.cut.2] ++ leBytes 2 t.pedestal ++
  num4 t.skyStacked ++ num4 t.groundStacked ++ num4 t.clock.toNat ++ leBytes 2 t.width ++ leBytes 2 t.height

/-- The output tile record (R201). -/
def OutTile.bytes (t : OutTile) (tile tx ty : Nat) : List Byte :=
  t.header tile tx ty ++ t.samples.flatMap fun w => leBytes 2 w.toNat

/-- The nine capacities of PING in their order (R197). -/
def capacities : List Nat := [3, 32, 16, 4, 4096, 12, 32, 64, 16]

/-- The payload of a reply. -/
def Body.bytes : Body → List Byte
  | .empty => []
  | .ping => num4 0x4180 ++ num4 1 ++ num4 9600 ++ num4 6400 ++ capacities.flatMap num4
  | .status r => r.bytes
  | .reports remaining removed => num4 removed.length ++ num4 remaining ++ counted Stamped.bytes removed
  | .sessionInfo r outstanding => r.bytes outstanding
  | .darkList slots => slots.flatMap SlotReply.bytes
  | .defectAdd added present notAdded => num4 added ++ num4 present ++ num4 notAdded
  | .defectRemove removed absent => num4 removed ++ num4 absent
  | .defectClear removed => num4 removed
  | .defectList length start entries =>
    num4 length ++ num4 start ++ counted (fun p : Nat × Nat => leBytes 2 p.1 ++ leBytes 2 p.2) entries
  | .guides entries => entries.flatMap guideBytes
  | .candidates records => counted Candidate.bytes records
  | .tracker t => t.bytes
  | .regions entries sky ground horizon exclude =>
    counted regionBytes entries ++ num4 sky ++ num4 ground ++ num4 horizon ++ num4 exclude
  | .totals t => t.bytes
  | .tileStatus tile sky ground => leBytes 2 tile ++ sky.bytes ++ ground.bytes
  | .notReady render =>
    [match render with | none => 0 | some (true, _, _) => 1 | some (false, _, _) => 2] ++
    optional 2 (leBytes 2) (render.map fun r => r.2.1) ++
    optional 1 (fun k : RenderKind => [k.code]) (render.map fun r => r.2.2)
  | .outputTile tile tx ty t => t.bytes tile tx ty

/-! ## Reply frames (R202) -/

/-- The kind byte of a reply: the request's kind with 0x80 added (R192, R202). A kind of 0x80 or above does not leave room
for it: a free value (log 10). -/
def replyKind (kind : Byte) : Byte := if kind.toNat < 0x80 then kind + 0x80 else Config.replyKindBeyond kind

/-- The bytes of a reply frame (R202). -/
def Reply.bytes (r : Reply) : List Byte :=
  let payload := r.body.bytes
  0x5A :: r.kind :: r.tag :: r.status.code :: leBytes 2 payload.length ++ payload

/-- What the part shifts out in an assertion of `len` bytes: the reply of a FULL slot, then 0xFF; 0xFF throughout otherwise
(R188). -/
def Slot.shift (slot : Slot) (len : Nat) : List Byte :=
  match slot with
  | .full r => (r.bytes ++ List.replicate len 0xFF).take len
  | .empty | .pending _ _ => List.replicate len 0xFF

end Sys2Proof.Machine
end

