-- ==== Sys2Proof/Machine/Link.lean ====
section
/-! DEFINITION. The link controller (chapter 11): taking a frame, dispatching a request, delivering its reply; the commands PING,
STATUS.GET, REPORT.FETCH, unknown kinds, short frames, reads, frames while busy, and HARDWARE_RESET_DONE. -/

namespace Sys2Proof.Machine

/-! ## Taking a frame (R188 to R191) -/

/-- What the part shifts out in the latest assertion (log 24). -/
def shiftFrame (len : Nat) (s : State) : State :=
  { s with link := { s.link with shiftOut := s.link.slot.shift len } }

/-- A frame that is discarded because RDY is low sets LINK_OVERRUN (R191, R200). -/
def overrunFrame (len : Nat) (s : State) : State :=
  let s := shiftFrame len s
  { s with link := { s.link with overrun := true } }

/-- The link takes a request frame: the slot's old reply is shifted out and discarded, the slot becomes PENDING and the nap
timer becomes 0 (R182, R188, R190). -/
def takeFrame (kind tag : Byte) (len : Nat) (s : State) : State :=
  let s := shiftFrame len s
  { s with link := { s.link with slot := .pending kind tag }, power := { s.power with napTimer := 0 } }

/-- Wake from STANDBY (R181). -/
def wake (cause : PowerCause) (s : State) : State :=
  match s.power.state with
  | .standby => post (.power .run cause) { s with power := { s.power with state := .run, napTimer := 0 } }
  | .run | .sleep => s

/-- Write a reply into the slot, which becomes FULL (R190, R192). -/
def deliver (kind tag : Byte) (st : Status) (body : Body) (s : State) : State :=
  { s with link := { s.link with slot := .full ⟨replyKind kind, tag, st, body⟩ } }

/-- Deliver the reply of a request that held RDY low until now (R190). -/
def deliverPending (st : Status) (body : Body) (s : State) : State :=
  match s.link.slot with
  | .pending kind tag => deliver kind tag st body s
  | .empty | .full _ => s

/-! ## Dispatch (R192) -/

/-- An owner's answer: a reply now, or later when its work completes (R190). -/
inductive Answer where
  | reply (st : Status) (body : Body)
  | later
  deriving DecidableEq, Repr

/-- A refusal, with an empty payload (R192). -/
def refuse (st : Status) (s : State) : State × Answer := (s, .reply st .empty)

/-- Taken, with an empty payload. -/
def accept (st : Status) (s : State) : State × Answer := (s, .reply st .empty)

/-- The bytes of a request frame as sent: header, payload and the bytes after it. -/
def frameLength (f : ReqFrame) : Nat := 5 + f.payload.length + f.trailing

/-- The request is taken in SLEEP (R185). -/
def takenInSleep (r : Req) : Bool := r == .statusGet || r == .powerRun

/-- Settle an owner's answer. -/
def settle (kind tag : Byte) (x : State × Answer) : State :=
  match x.2 with
  | .reply st body => deliver kind tag st body x.1
  | .later => x.1

/-- A request of the table, by the five steps of R192: ASLEEP in SLEEP; the wake from STANDBY; the payload's fields, or
BAD_LENGTH; the owner. A frame while RDY is low is discarded (R191). -/
def serve {α : Type} (r : Req) (f : ReqFrame) (fields : List Byte → Option α) (owner : α → State → State × Answer)
    (s : State) : State :=
  if s.rdy then
    let s := takeFrame r.code f.tag (frameLength f) s
    if s.power.state = .sleep ∧ takenInSleep r = false then deliver r.code f.tag .asleep .empty s
    else
      let s := wake .link s
      match fields f.payload with
      | none => deliver r.code f.tag .badLength .empty s
      | some x => settle r.code f.tag (owner x s)
  else overrunFrame (frameLength f) s

/-! ## The link's own requests -/

/-- PING (R197). -/
def ownPing (_ : Unit) (s : State) : State × Answer := (s, .reply .ok .ping)

/-- The PING command. -/
def execPing (f : ReqFrame) (s : State) : Host.Outcome State Fault Refusal := .next (serve .ping f readNothing ownPing s)

/-- What STATUS.GET reports (R198). -/
def State.statusReply (s : State) : StatusReply where
  power := s.power.state
  pendingStandby := s.power.pendingStandby
  session := s.session.state
  tracker := s.tracker.state
  engineBusy := s.engineBusy
  freeBuffers := s.freeBuffers
  queueLength := s.link.reports.length
  dropped := s.port.dropped
  lolLimit := s.tracker.lolLimit
  reportOverflow := s.link.overflow
  linkOverrun := s.link.overrun
  dropTotal := s.port.dropTotal
  eccCorrected := s.eccCorrected

/-- STATUS.GET reports the flags and then clears them (R117, R198). -/
def ownStatusGet (_ : Unit) (s : State) : State × Answer :=
  ({ s with port := { s.port with dropped := none }
            link := { s.link with overflow := false, overrun := false }
            tracker := s.tracker.readLol },
   .reply .ok (.status s.statusReply))

/-- The STATUS_GET command. -/
def execStatusGet (f : ReqFrame) (s : State) : Host.Outcome State Fault Refusal :=
  .next (serve .statusGet f readNothing ownStatusGet s)

/-- REPORT.FETCH (R196). -/
def ownReportFetch (max : Nat) (s : State) : State × Answer :=
  if max = 0 ∨ 8 < max then refuse .badValue s
  else
    let rest := s.link.reports.drop max
    ({ s with link := { s.link with reports := rest } }, .reply .ok (.reports rest.length (s.link.reports.take max)))

/-- The REPORT_FETCH command. -/
def execReportFetch (f : ReqFrame) (s : State) : Host.Outcome State Fault Refusal :=
  .next (serve .reportFetch f (readOne 4) ownReportFetch s)

/-! ## Frames that no block owns -/

/-- A request whose kind code is not in the table (R185, R192). -/
def serveUnknown (kind : Byte) (f : ReqFrame) (s : State) : State :=
  if s.rdy then
    let s := takeFrame kind f.tag (frameLength f) s
    if s.power.state = .sleep then deliver kind f.tag .asleep .empty s
    else deliver kind f.tag .badKind .empty (wake .link s)
  else overrunFrame (frameLength f) s

/-- The UNKNOWN_KIND_REQUEST command. -/
def execUnknownKindRequest (kind : Byte) (f : ReqFrame) (s : State) : Host.Outcome State Fault Refusal :=
  .next (serveUnknown kind f s)

/-- The kind byte of a short frame, 0 where it carries none: its reply's kind is then 0x80 (R189). -/
def shortKind (bytes : List Byte) : Byte := bytes.getD 1 0

/-- The tag of a short frame, 0 where it carries none (R189). -/
def shortTag (bytes : List Byte) : Byte := bytes.getD 2 0

/-- A short request frame: BAD_LENGTH, after the wake of any request frame taken (R189). In SLEEP it is answered and the part
stays asleep (log 17). -/
def serveShort (bytes : List Byte) (s : State) : State :=
  if s.rdy then
    let s := takeFrame (shortKind bytes) (shortTag bytes) bytes.length s
    deliver (shortKind bytes) (shortTag bytes) .badLength .empty (wake .link s)
  else overrunFrame bytes.length s

/-- The SHORT_REQUEST_FRAME command. -/
def execShortRequestFrame (bytes : List Byte) (s : State) : Host.Outcome State Fault Refusal := .next (serveShort bytes s)

/-- The REPLY_READ_FRAME command: the slot is shifted out and nothing else happens (R188). -/
def execReplyReadFrame (len : Nat) (s : State) : Host.Outcome State Fault Refusal := .next (shiftFrame len s)

/-- The REQUEST_FRAME_WHILE_BUSY command (R191): it stands for a frame written while RDY is low, so with RDY high it does not
occur and nothing changes (log 3). -/
def execRequestFrameWhileBusy (len : Nat) (s : State) : Host.Outcome State Fault Refusal :=
  .next (if s.rdy then s else overrunFrame len s)

/-- The HARDWARE_RESET_DONE command: every block has taken its hardware reset; the RESET report is posted and RDY rises
(R200). -/
def execHardwareResetDone (s : State) : Host.Outcome State Fault Refusal :=
  .next (if s.link.ready then s
    else
      let s := post (.reset .hardware) s
      { s with link := { s.link with ready := true } })

end Sys2Proof.Machine
end

