-- ==== Sys2Proof/Machine/Engine.lean ====
section
/-! DEFINITION. The integration engine's events: ENGINE_JOB_SELECT with PREPARE, and the stages MEASURE, TRACK, FIND and STACK
of a light sub-frame, and the TILE.STATUS computation. Each event with nothing to complete does not occur and changes nothing
(log 3). -/

namespace Sys2Proof.Machine

/-- The ENGINE_JOB_SELECT command (R50): in RUN, with no job held. -/
def execEngineJobSelect (s : State) : Host.Outcome State Fault Refusal :=
  .next (if s.power.state = .run ∧ s.engine.job = none then selectJob s else s)

/-- The buffer and record of the light sub-frame that is the engine's job, when it stands in this stage. -/
def State.lightAt (s : State) (st : Stage) : Option (Nat × SubFrame) :=
  match s.engine.job with
  | some (.light b) =>
    match s.buffer b with
    | some f => if f.stage = st then some (b, f) else none
    | none => none
  | _ => none

/-! ## MEASURE (R88) -/

/-- The end of MEASURE: TRACK begins, or the sub-frame is dropped for a staging error (R59). -/
def endMeasure (b : Nat) (x : State × Bool) : State := if x.2 then dropMemory b x.1 else setStage b .track x.1

/-- MEASURE of the sub-frame in a buffer: the twelve guide slots in order (R88). -/
def runMeasure (b : Nat) (e : Ecc) (s : State) : State := endMeasure b (measureSlots b e (List.range 12) s)

/-- The MEASURE command (R88). -/
def execMeasure (e : Ecc) (s : State) : Host.Outcome State Fault Refusal :=
  .next (match s.lightAt .measure with
    | some (b, _) => runMeasure b e (countCorrected e s)
    | none => s)

/-! ## TRACK (R89) -/

/-- What TRACK writes into the sub-frame record (R48, R53, R110, R120); FIND begins. -/
def SubFrame.tracked (f : SubFrame) (ph : Phase) (aK : Int) (p : Permission) : SubFrame :=
  { f with phaseError := ph.e, validCount := ph.valid, aK := aK, finS := sinScaled aK, finC := cosScaled aK
           permission := p, stage := .find }

/-- The tracker takes A_k, the predicted remainder and t_mid (R15). -/
def Tracker.take (t : Tracker) (f : SubFrame) (aK : Int) : Tracker :=
  { t with a := aK, rem := if f.reference then 0 else f.remPred, tLast := f.tMid }

/-- Post the TRACK report of a move (R108). -/
def reportMove (old : TrackState) (cause : Option TrackCause) (s : State) : State :=
  match cause with
  | some c => reportTrack old c s
  | none => s

/-- TRACK of the sub-frame `f` in buffer `b` (R89): the tracker's part, the TRACK report, the outcomes of the entries in slot
order, then A, rem and t_last; the reference marker becomes absent (R27, R53). -/
def runTrack (b : Nat) (f : SubFrame) (s : State) : State :=
  let x := trackOf s.tracker f
  let aK := x.2.2.1
  let f' := f.tracked x.1 aK (x.2.1.skyPermission f.reference s.stacker.settings.stackWhileAcquiring)
  let s1 := reportMove s.tracker.state x.2.2.2 { s with tracker := x.2.1 }
  let s2 := applyOutcomes f'.finS f'.finC x.1.members f.measured s1
  let s3 := { s2 with tracker := s2.tracker.take f aK }
  let s4 := if f.reference then { s3 with session := { s3.session with refMark := none } } else s3
  s4.setBuffer b (some f')

/-- The TRACK command (R89). -/
def execTrack (s : State) : Host.Outcome State Fault Refusal :=
  .next (match s.lightAt .track with
    | some (b, f) => runTrack b f s
    | none => s)

/-! ## FIND (R92) -/

/-- The finder's part of FIND: the scan when the decision is to make one (R92, R93). -/
def runFinder (b : Nat) (e : Ecc) (f : SubFrame) (s : State) : State × Bool :=
  if finderScans s f then scanCells b e s.format.cellCount 0 (openScan s) else (s, false)

/-- FIND of the sub-frame `f` in buffer `b`: the finder, then refill; a staging error drops the sub-frame (R59, R96). -/
def runFind (b : Nat) (e : Ecc) (f : SubFrame) (s : State) : State :=
  let x := runFinder b e f s
  if x.2 then dropMemory b x.1 else setStage b .stack (refill f.finS f.finC 12 x.1)

/-- The FIND command (R92). -/
def execFind (e : Ecc) (s : State) : Host.Outcome State Fault Refusal :=
  .next (match s.lightAt .find with
    | some (b, f) => runFind b e f (countCorrected e s)
    | none => s)

/-! ## STACK (R152) -/

/-- STACK and what follows it: RETIRE, or the drop for a staging error (R152). -/
def runStack (b : Nat) (e : Ecc) (s : State) : State := finishStack b (stackPasses b e s)

/-- The STACK command (R152). -/
def execStack (e : Ecc) (s : State) : Host.Outcome State Fault Refusal :=
  .next (match s.lightAt .stack with
    | some (b, _) => runStack b e (countCorrected e s)
    | none => s)

/-! ## TILE.STATUS computation (R160) -/

/-- The computation for a tile, sky then ground, and its reply (R160). -/
def runTileStatus (e : Ecc) (tile : Nat) (s : State) : State :=
  let x := layerReply e .sky tile s
  let y := layerReply e .ground tile x.1
  deliverPending .ok (.tileStatus tile x.2 y.2) (endJob y.1)

/-- The TILE_STATUS_COMPUTATION command (R160). -/
def execTileStatusComputation (e : Ecc) (s : State) : Host.Outcome State Fault Refusal :=
  .next (match s.engine.job with
    | some (.tileStatus tile) => runTileStatus e tile (countCorrected e s)
    | _ => s)

end Sys2Proof.Machine
end

