-- ==== Sys2Proof/Machine/Observe.lean ====
section
/-! DEFINITION. What the requests that only report show of the part, at a moment of the job in flight (R37, R71, R101, R102,
R158, log 38). -/

namespace Sys2Proof.Machine

/-- The part after `p.units` of the job in flight, counted as for an abandonment (log 5). In STACK the units above the last visit
of the sky pass are the moment between the end of that pass and the end of the stage (R152). -/
def glimpse (p : Progress) (s : State) : State :=
  match s.lightAt .stack with
  | some (b, _) =>
    if 2 * s.format.passLength + 1 < p.units then stackPasses b p.ecc s else partialStack b p.ecc p.units s
  | none => partialJob p s

/-- How far the job in flight has got when a request that only reports is taken: a free value (log 38). -/
def State.seenProgress (s : State) : Progress := ⟨Config.seenUnits s.freeSeed, ⟨0, Config.seenErrors s.freeSeed⟩⟩

/-- Answer OK with the part as it stands when the request is taken. A job in flight changes what is shown as it goes, and may
have got to any point: a free value, spent (DESIGN CHOICE, log 38). The request changes nothing else. -/
def showNow (body : State → Body) (s : State) : State × Answer :=
  match s.engine.job with
  | none => (s, .reply .ok (body s))
  | some _ => ({ s with freeSeed := s.freeSeed + 1 }, .reply .ok (body (glimpse s.seenProgress s)))

end Sys2Proof.Machine
end

