-- ==== Sys2Proof/Machine/Dark.lean ====
section
/-! DEFINITION. The calibration unit's requests (chapter 4) and its two jobs, DARK_ADD and DARK_FINALIZATION. -/

namespace Sys2Proof.Machine

/-! ## DARK.BUILD, DARK.END, DARK.ABORT (R64, R66, R69) -/

/-- The session is IDLE or CLOSED. -/
def State.outsideSession (s : State) : Bool := s.session.state == .idle || s.session.state == .closed

/-- The FREE slot of lowest index (R64). -/
def Calibration.lowestFree (c : Calibration) : Option Nat := (List.range 4).find? fun k => c.slot k == .free

/-- The slot a DARK.BUILD takes: the one named when it is FREE, else the FREE slot of lowest index (R64). -/
def Calibration.buildSlot (c : Calibration) : Option Nat → Option Nat
  | some k => if c.slot k = .free then some k else none
  | none => c.lowestFree

/-- A new build record (R64). -/
def newBuild (slot number hotLevel : Nat) : Build := ⟨slot, number, true, none, 0, 0, 0, true, hotLevel⟩

/-- Begin a build in a slot (R64). -/
def beginBuild (slot : Nat) (hot : Option Nat) (s : State) : State :=
  let number := s.calib.buildCounter + 1
  let s := s.setSlot slot .building
  { s with calib := { s.calib with build := some (newBuild slot number.toNat (min (hot.getD 0) 65535))
                                   buildCounter := number } }

/-- DARK.BUILD, its checks in order (R64). -/
def ownDarkBuild (x : Option Nat × Option Nat) (s : State) : State × Answer :=
  if s.outsideSession = false then refuse .wrongState s
  else if 3 < x.1.getD 0 then refuse .badValue s
  else if s.buildActive then refuse .busy s
  else
    match s.calib.buildSlot x.1 with
    | none => refuse .noSpace s
    | some slot => accept .ok (beginBuild slot x.2 s)

/-- The DARK_BUILD command. -/
def execDarkBuild (f : ReqFrame) (s : State) : Host.Outcome State Fault Refusal :=
  .next (serve .darkBuild f readDarkBuild ownDarkBuild s)

/-- DARK.END (R66). -/
def ownDarkEnd (_ : Unit) (s : State) : State × Answer :=
  match s.calib.build with
  | none => refuse .wrongState s
  | some bd =>
    if s.building ∧ bd.accepting then
      accept .started (testBuildEnd { s with calib := { s.calib with build := some { bd with accepting := false } } })
    else refuse .wrongState s

/-- The DARK_END command. -/
def execDarkEnd (f : ReqFrame) (s : State) : Host.Outcome State Fault Refusal :=
  .next (serve .darkEnd f readNothing ownDarkEnd s)

/-- The slot that is BUILDING or FINALIZING; there is at most one (R63). -/
def Calibration.activeSlot (c : Calibration) : Option Nat := (List.range 4).find? fun k => (c.slot k).active

/-- What is in flight when a build is aborted: a DARK_ADD ends with its buffer FREE, a finalization is abandoned where it
stands (R69, log 5). The answer gives the defects added and not added so far. -/
def abortInFlight (p : Progress) (s : State) : State × Nat × Nat :=
  match s.engine.job with
  | some (.dark b) =>
    (endJob ((abandonedWork p s).setBuffer b none), 0, 0)
  | some .finalization =>
    match s.calib.build with
    | some bd =>
      let w := finalizePixels p.ecc bd (min p.units s.format.pixelCount) (countCorrected p.ecc s)
      (endJob w.s, w.added, w.notAdded)
    | none => (endJob s, 0, 0)
  | _ => (s, 0, 0)

/-- Abandon the build of a slot (R69). -/
def abortBuild (slot : Nat) (p : Progress) (s : State) : State :=
  let x := abortInFlight p s
  let s := x.1.setSlot slot .free
  post (.dark slot .aborted x.2.1 x.2.2) { s with calib := { s.calib with build := none } }

/-- DARK.ABORT (R69): taken with a slot BUILDING or FINALIZING, which R63 allows in IDLE and CLOSED alone. -/
def ownDarkAbort (p : Progress) (_ : Unit) (s : State) : State × Answer :=
  match s.calib.activeSlot with
  | none => refuse .wrongState s
  | some slot => accept .ok (abortBuild slot p s)

/-- The DARK_ABORT command. -/
def execDarkAbort (f : ReqFrame) (p : Progress) (s : State) : Host.Outcome State Fault Refusal :=
  .next (serve .darkAbort f readNothing (ownDarkAbort p) s)

/-! ## DARK.FREE, DARK.LIST (R70, R71) -/

/-- DARK.FREE (R70). -/
def ownDarkFree (slot : Nat) (s : State) : State × Answer :=
  if 3 < slot then refuse .badValue s
  else if (s.calib.slot slot).active ∨ s.slotInUse slot then refuse .busy s
  else accept .ok (s.setSlot slot .free)

/-- The DARK_FREE command. -/
def execDarkFree (f : ReqFrame) (s : State) : Host.Outcome State Fault Refusal :=
  .next (serve .darkFree f (readOne 1) ownDarkFree s)

/-- One slot of a DARK.LIST reply (R71). -/
def State.slotReply (s : State) (k : Nat) : SlotReply :=
  match s.calib.slot k with
  | .free => .free
  | .building => match s.calib.build with | some b => .building false b | none => .free
  | .finalizing => match s.calib.build with | some b => .building true b | none => .free
  | .ready d => .held false d.temperature d.exposureMs d.frameCount (s.slotInUse k)
  | .damaged d => .held true d.temperature d.exposureMs d.frameCount (s.slotInUse k)

/-- DARK.LIST (R71): with a light sub-frame in flight, each slot before or after an uncorrectable error. -/
def ownDarkList (_ : Unit) (s : State) : State × Answer := showNow (fun v => .darkList ((List.range 4).map v.slotReply)) s

/-- The DARK_LIST command. -/
def execDarkList (f : ReqFrame) (s : State) : Host.Outcome State Fault Refusal :=
  .next (serve .darkList f readNothing ownDarkList s)

/-! ## The defect list (R76 to R80) -/

/-- The two checks of every DEFECT request, before its fields (R76). -/
def State.defectRefusal (s : State) : Option Status :=
  if s.outsideSession = false then some .wrongState
  else if s.finalizing then some .busy
  else none

/-- Insert a number in ascending order, keeping repeats. -/
def insertIndex (i : Nat) : List Nat → List Nat
  | [] => [i]
  | d :: ds => if i ≤ d then i :: d :: ds else d :: insertIndex i ds

/-- The indices of a request's positions in ascending order (R77). -/
def sortedIndices (f : Format) (ps : List (Nat × Nat)) : List Nat :=
  (ps.map fun p => f.pixelIndex p.1 p.2).foldr insertIndex []

/-- A DEFECT.ADD in progress: the list, the index taken last, the counts. -/
structure DefectWork where
  list : List Nat
  last : Option Nat
  added : Nat
  present : Nat
  notAdded : Nat
  deriving DecidableEq, Repr

/-- Take one position of DEFECT.ADD; one that repeats an index of the same request is counted as present (R77). -/
def addDefect (w : DefectWork) (i : Nat) : DefectWork :=
  if w.last = some i then { w with present := w.present + 1 }
  else
    match offerDefect i w.list with
    | (.added, ds) => { w with list := ds, last := some i, added := w.added + 1 }
    | (.present, _) => { w with last := some i, present := w.present + 1 }
    | (.notAdded, _) => { w with last := some i, notAdded := w.notAdded + 1 }

/-- Every position is a pixel of the format (R77). -/
def pixelsInRange (f : Format) (ps : List (Nat × Nat)) : Bool :=
  ps.all fun p => p.1 < f.width && p.2 < f.height

/-- Write the defect list. -/
def setDefects (ds : List Nat) (s : State) : State := { s with calib := { s.calib with defects := ds } }

/-- DEFECT.ADD (R76, R77). -/
def ownDefectAdd (ps : List (Nat × Nat)) (s : State) : State × Answer :=
  match s.defectRefusal with
  | some st => refuse st s
  | none =>
    if pixelsInRange s.format ps then
      let w := (sortedIndices s.format ps).foldl addDefect ⟨s.calib.defects, none, 0, 0, 0⟩
      (setDefects w.list s, .reply .ok (.defectAdd w.added w.present w.notAdded))
    else refuse .badValue s

/-- The DEFECT_ADD command. -/
def execDefectAdd (f : ReqFrame) (s : State) : Host.Outcome State Fault Refusal :=
  .next (serve .defectAdd f readPixelList ownDefectAdd s)

/-- Take one position of DEFECT.REMOVE: the list left and the counts removed and absent (R78). -/
def removeDefect (w : List Nat × Nat × Nat) (i : Nat) : List Nat × Nat × Nat :=
  if w.1.contains i then (w.1.erase i, w.2.1 + 1, w.2.2) else (w.1, w.2.1, w.2.2 + 1)

/-- DEFECT.REMOVE (R76, R78). -/
def ownDefectRemove (ps : List (Nat × Nat)) (s : State) : State × Answer :=
  match s.defectRefusal with
  | some st => refuse st s
  | none =>
    if pixelsInRange s.format ps then
      let w := (sortedIndices s.format ps).foldl removeDefect (s.calib.defects, 0, 0)
      (setDefects w.1 s, .reply .ok (.defectRemove w.2.1 w.2.2))
    else refuse .badValue s

/-- The DEFECT_REMOVE command. -/
def execDefectRemove (f : ReqFrame) (s : State) : Host.Outcome State Fault Refusal :=
  .next (serve .defectRemove f readPixelList ownDefectRemove s)

/-- DEFECT.CLEAR (R76, R79). -/
def ownDefectClear (_ : Unit) (s : State) : State × Answer :=
  match s.defectRefusal with
  | some st => refuse st s
  | none => (setDefects [] s, .reply .ok (.defectClear s.calib.defects.length))

/-- The DEFECT_CLEAR command. -/
def execDefectClear (f : ReqFrame) (s : State) : Host.Outcome State Fault Refusal :=
  .next (serve .defectClear f readNothing ownDefectClear s)

/-- The pixel of an index (R75). -/
def Format.pixelOfIndex (f : Format) (i : Nat) : Nat × Nat := (i % f.width, i / f.width)

/-- DEFECT.LIST (R76, R80). -/
def ownDefectList (x : Nat × Nat) (s : State) : State × Answer :=
  match s.defectRefusal with
  | some st => refuse st s
  | none =>
    let entries := (s.calib.defects.drop x.1).take (min x.2 1024)
    (s, .reply .ok (.defectList s.calib.defects.length x.1 (entries.map s.format.pixelOfIndex)))

/-- The DEFECT_LIST command. -/
def execDefectList (f : ReqFrame) (s : State) : Host.Outcome State Fault Refusal :=
  .next (serve .defectList f readPair ownDefectList s)

/-! ## The two jobs (R55, R68) -/

/-- The DARK_ADD command (R55): with no dark frame as the engine's job it does not occur and nothing changes (log 3). -/
def execDarkAdd (e : Ecc) (s : State) : Host.Outcome State Fault Refusal :=
  .next (match s.engine.job with
    | some (.dark b) =>
      match s.buffer b with
      | some f => runDarkAdd b e f s
      | none => s
    | _ => s)

/-- The DARK_FINALIZATION command (R68): with no finalization as the engine's job it does not occur and nothing changes
(log 3). -/
def execDarkFinalization (e : Ecc) (s : State) : Host.Outcome State Fault Refusal :=
  .next (match s.engine.job, s.calib.build with
    | some .finalization, some bd => runFinalization e bd (countCorrected e s)
    | _, _ => s)

end Sys2Proof.Machine
end

