-- ==== Sys2Proof/Machine/Guides.lean ====
section
/-! DEFINITION. The requests of the star unit, the tracker, the region unit and the stacker (chapters 5 to 8). -/

namespace Sys2Proof.Machine

/-- Answer an edit that has passed its checks (R56). -/
def answerEdit (e : Edit) (s : State) : State × Answer :=
  let x := takeEdit e s
  (x.1, .reply x.2 .empty)

/-! ## Stars and guides (R97 to R103) -/

/-- STARS.FIND (R97). -/
def ownStarsFind (_ : Unit) (s : State) : State × Answer :=
  match s.session.state with
  | .armed | .integrating | .paused | .closing => accept .ok { s with stars := { s.stars with armed := true } }
  | .idle | .opening | .closed => refuse .wrongState s

/-- The STARS_FIND command. -/
def execStarsFind (f : ReqFrame) (s : State) : Host.Outcome State Fault Refusal :=
  .next (serve .starsFind f readNothing ownStarsFind s)

/-- GUIDE.LIST (R101): with MEASURE, TRACK or a refill in flight, each entry before its change or after it. -/
def ownGuideList (_ : Unit) (s : State) : State × Answer := showNow (fun v => .guides v.stars.guides) s

/-- The GUIDE_LIST command. -/
def execGuideList (f : ReqFrame) (s : State) : Host.Outcome State Fault Refusal :=
  .next (serve .guideList f readNothing ownGuideList s)

/-- The session states in which GUIDE.ADD and GUIDE.DROP are taken (R98, R100). -/
def SessionState.takesGuides : SessionState → Bool
  | .armed | .integrating | .paused => true
  | .idle | .opening | .closing | .closed => false

/-- A position of GUIDE.ADD is inside the frame (R98). -/
def Format.hasPosition (f : Format) (x y : Int) : Bool :=
  0 ≤ x && x ≤ 8 * (f.width : Int) - 1 && 0 ≤ y && y ≤ 8 * (f.height : Int) - 1

/-- GUIDE.ADD (R98). -/
def ownGuideAdd (p : Int × Int) (s : State) : State × Answer :=
  if s.session.state.takesGuides = false then refuse .wrongState s
  else if s.format.hasPosition p.1 p.2 = false then refuse .badValue s
  else answerEdit (.guideAdd p.1 p.2) s

/-- The GUIDE_ADD command. -/
def execGuideAdd (f : ReqFrame) (s : State) : Host.Outcome State Fault Refusal :=
  .next (serve .guideAdd f readPosition ownGuideAdd s)

/-- GUIDE.DROP (R100). -/
def ownGuideDrop (slot : Nat) (s : State) : State × Answer :=
  if s.session.state.takesGuides = false then refuse .wrongState s
  else if 11 < slot then refuse .badValue s
  else answerEdit (.guideDrop slot) s

/-- The GUIDE_DROP command. -/
def execGuideDrop (f : ReqFrame) (s : State) : Host.Outcome State Fault Refusal :=
  .next (serve .guideDrop f (readOne 1) ownGuideDrop s)

/-- CANDIDATE.LIST (R102): with a scan or a refill in flight, the list between two offers or two admissions. -/
def ownCandidateList (_ : Unit) (s : State) : State × Answer := showNow (fun v => .candidates v.stars.candidates) s

/-- The CANDIDATE_LIST command. -/
def execCandidateList (f : ReqFrame) (s : State) : Host.Outcome State Fault Refusal :=
  .next (serve .candidateList f readNothing ownCandidateList s)

/-- STARS.CONFIGURE (R103). -/
def ownStarsConfigure (x : StarPending) (s : State) : State × Answer := accept .ok (takeSettings {} x.clamped {} s)

/-- The STARS_CONFIGURE command. -/
def execStarsConfigure (f : ReqFrame) (s : State) : Host.Outcome State Fault Refusal :=
  .next (serve .starsConfigure f readStarFields ownStarsConfigure s)

/-! ## Tracker (R122 to R127) -/

/-- TRACK.CONFIGURE (R122). -/
def ownTrackConfigure (x : TrackFields) (s : State) : State × Answer :=
  accept .ok (takeSettings { fields := x.clamped } {} {} s)

/-- The TRACK_CONFIGURE command. -/
def execTrackConfigure (f : ReqFrame) (s : State) : Host.Outcome State Fault Refusal :=
  .next (serve .trackConfigure f readTrackFields ownTrackConfigure s)

/-- TRACK.MODE (R123). -/
def ownTrackMode (code : Nat) (s : State) : State × Answer :=
  match trackModeOf code with
  | none => refuse .badValue s
  | some m => accept .ok (takeSettings { mode := some m } {} {} s)

/-- The TRACK_MODE command. -/
def execTrackMode (f : ReqFrame) (s : State) : Host.Outcome State Fault Refusal :=
  .next (serve .trackMode f (readOne 1) ownTrackMode s)

/-- One signed field. -/
def readOneS (bs : List Byte) : Option Int := (readS bs).map Prod.fst

/-- TRACK.SET_RATE (R124). -/
def ownTrackSetRate (rate : Int) (s : State) : State × Answer :=
  if rate = 0 then refuse .badValue s
  else accept .ok (takeSettings { rate := some (clampRate rate) } {} {} s)

/-- The TRACK_SET_RATE command. -/
def execTrackSetRate (f : ReqFrame) (s : State) : Host.Outcome State Fault Refusal :=
  .next (serve .trackSetRate f readOneS ownTrackSetRate s)

/-- The session states in which TRACK.SET_POLE is taken (R125). -/
def SessionState.takesPole : SessionState → Bool
  | .armed | .integrating | .paused | .closing => true
  | .idle | .opening | .closed => false

/-- A pole in range (R21, R125). -/
def poleInRange (x y : Int) : Bool := -4000000 ≤ x && x ≤ 4000000 && -4000000 ≤ y && y ≤ 4000000

/-- TRACK.SET_POLE (R125). -/
def ownTrackSetPole (p : Int × Int) (s : State) : State × Answer :=
  if s.session.state.takesPole = false then refuse .wrongState s
  else if poleInRange p.1 p.2 = false then refuse .badValue s
  else answerEdit (.setPole p.1 p.2) s

/-- The TRACK_SET_POLE command. -/
def execTrackSetPole (f : ReqFrame) (s : State) : Host.Outcome State Fault Refusal :=
  .next (serve .trackSetPole f readPosition ownTrackSetPole s)

/-- TRACK.STATUS: the read reports LOL_LIMIT and may clear it (R117, R127). -/
def ownTrackStatus (_ : Unit) (s : State) : State × Answer :=
  ({ s with tracker := s.tracker.readLol }, .reply .ok (.tracker s.tracker))

/-- The TRACK_STATUS command. -/
def execTrackStatus (f : ReqFrame) (s : State) : Host.Outcome State Fault Refusal :=
  .next (serve .trackStatus f readNothing ownTrackStatus s)

/-- TRACK.CLEAR_LOL (R126). -/
def ownTrackClearLol (value : Nat) (s : State) : State × Answer :=
  if 15 < value then refuse .badValue s
  else accept .ok { s with tracker := Tracker.raiseLol { s.tracker with lolCount := value } }

/-- The TRACK_CLEAR_LOL command. -/
def execTrackClearLol (f : ReqFrame) (s : State) : Host.Outcome State Fault Refusal :=
  .next (serve .trackClearLol f (readOne 4) ownTrackClearLol s)

/-! ## Regions (R135 to R139) -/

/-- A rectangle names a tile of the grid (R135, R170). -/
def Format.hasArea (f : Format) (tx ty tw th : Nat) : Bool :=
  tw != 0 && th != 0 && tx < f.tilesAcross && ty < f.tilesDown

/-- The edit of a REGION.SET that passes its checks, its rectangle clipped to the grid (R135, R136). -/
def RegionFields.edit (x : RegionFields) (f : Format) : Option Edit :=
  if 63 < x.index then none
  else
    match x.tileClass with
    | none => none
    | some c =>
      if f.hasArea x.tx x.ty x.tw x.th then
        some (.regionSet x.index ⟨x.tx, x.ty, min x.tw (f.tilesAcross - x.tx), min x.th (f.tilesDown - x.ty), c⟩)
      else none

/-- REGION.SET (R135, R136). -/
def ownRegionSet (x : RegionFields) (s : State) : State × Answer :=
  match x.edit s.format with
  | none => refuse .badValue s
  | some e => answerEdit e s

/-- The REGION_SET command. -/
def execRegionSet (f : ReqFrame) (s : State) : Host.Outcome State Fault Refusal :=
  .next (serve .regionSet f readRegion ownRegionSet s)

/-- REGION.CLEAR (R138). -/
def ownRegionClear (index : Nat) (s : State) : State × Answer :=
  if index = allRegions then answerEdit (.regionClear none) s
  else if 63 < index then refuse .badValue s
  else answerEdit (.regionClear (some index)) s

/-- The REGION_CLEAR command. -/
def execRegionClear (f : ReqFrame) (s : State) : Host.Outcome State Fault Refusal :=
  .next (serve .regionClear f (readOne 4) ownRegionClear s)

/-- The occupied entries with their indices, in index order (R139). -/
def occupiedRegions (rs : List (Option Region)) : List (Nat × Region) :=
  rs.zipIdx.filterMap fun e => e.1.map fun r => (e.2, r)

/-- The class is HORIZON, with whatever cut. -/
def TileClass.isHorizon : TileClass → Bool
  | .horizon _ _ => true
  | .sky | .ground | .exclude => false

/-- What REGION.LIST reports (R139). -/
def State.regionReply (s : State) : Body :=
  .regions (occupiedRegions s.regions) (countTiles s.regions s.format fun c => c == .sky)
    (countTiles s.regions s.format fun c => c == .ground) (countTiles s.regions s.format TileClass.isHorizon)
    (countTiles s.regions s.format fun c => c == .exclude)

/-- REGION.LIST (R139). -/
def ownRegionList (_ : Unit) (s : State) : State × Answer := (s, .reply .ok s.regionReply)

/-- The REGION_LIST command. -/
def execRegionList (f : ReqFrame) (s : State) : Host.Outcome State Fault Refusal :=
  .next (serve .regionList f readNothing ownRegionList s)

/-! ## Stacker (R157 to R159) -/

/-- STACK.CONFIGURE (R157). -/
def ownStackConfigure (x : StackFields) (s : State) : State × Answer :=
  match x.pending with
  | none => refuse .badValue s
  | some p => accept .ok (takeSettings {} {} p s)

/-- The STACK_CONFIGURE command. -/
def execStackConfigure (f : ReqFrame) (s : State) : Host.Outcome State Fault Refusal :=
  .next (serve .stackConfigure f readStackFields ownStackConfigure s)

/-- STACK.STATUS (R158): with STACK in flight, the totals between the three points of R152 and before or after each damage; with a
render tile in flight, before or after each damage (R154). -/
def ownStackStatus (_ : Unit) (s : State) : State × Answer := showNow (fun v => .totals v.stacker.totals) s

/-- The STACK_STATUS command. -/
def execStackStatus (f : ReqFrame) (s : State) : Host.Outcome State Fault Refusal :=
  .next (serve .stackStatus f readNothing ownStackStatus s)

/-- TILE.STATUS: a request that passes its checks waits for its computation, and its reply with it (R159). -/
def ownTileStatus (tile : Nat) (s : State) : State × Answer :=
  match s.session.state with
  | .idle | .opening => refuse .wrongState s
  | .armed | .integrating | .paused | .closing | .closed =>
    if s.format.tileCount ≤ tile then refuse .badValue s
    else ({ s with engine := { s.engine with tileRequest := some tile } }, .later)

/-- The TILE_STATUS command. -/
def execTileStatus (f : ReqFrame) (s : State) : Host.Outcome State Fault Refusal :=
  .next (serve .tileStatus f (readOne 2) ownTileStatus s)

end Sys2Proof.Machine
end

