-- ==== Sys2Proof/Machine/Finisher.lean ====
section
/-! DEFINITION. The finisher's requests (chapter 9) and the event RENDER_TILE. -/

namespace Sys2Proof.Machine

/-- FINISH.START (R169). -/
def ownFinishStart (_ : Unit) (s : State) : State × Answer :=
  if s.session.state ≠ .closed then refuse .wrongState s
  else if s.finisher.output.isRendering then refuse .busy s
  else accept .started (startRender .finish 0 0 s.format.tilesAcross s.format.tilesDown s)

/-- The FINISH_START command. -/
def execFinishStart (f : ReqFrame) (s : State) : Host.Outcome State Fault Refusal :=
  .next (serve .finishStart f readNothing ownFinishStart s)

/-- PREVIEW.AREA, its checks in order, its area clipped to the grid (R170, R171). -/
def ownPreviewArea (x : AreaFields) (s : State) : State × Answer :=
  match s.session.state with
  | .idle | .opening | .armed => refuse .wrongState s
  | .integrating | .paused | .closing | .closed =>
    if s.finisher.output.isRendering then refuse .busy s
    else if s.format.hasArea x.tx x.ty x.tw x.th = false then refuse .badValue s
    else
      accept .started (startRender .preview x.tx x.ty (min x.tw (s.format.tilesAcross - x.tx))
        (min x.th (s.format.tilesDown - x.ty)) s)

/-- The PREVIEW_AREA command. -/
def execPreviewArea (f : ReqFrame) (s : State) : Host.Outcome State Fault Refusal :=
  .next (serve .previewArea f readArea ownPreviewArea s)

/-- What a NOT_READY answer carries (R172). -/
def Output.notReadyBody : Output → Body
  | .empty => .notReady none
  | .rendering r => .notReady (some (true, r.number, r.kind))
  | .ready r => .notReady (some (false, r.number, r.kind))

/-- A word of the tile's samples is uncorrectable (R173): 1,024 words a tile (R161). -/
def outputFails (e : Ecc) (tile : Nat) : Bool :=
  (List.range 1024).any fun w => readFails e .outputRead (.output (tile * 1024 + w))

/-- OUTPUT.READ (R172, R173). -/
def ownOutputRead (e : Ecc) (tile : Nat) (s : State) : State × Answer :=
  if s.format.tileCount ≤ tile then refuse .badValue s
  else
    match s.finisher.tile tile with
    | none => (s, .reply .notReady s.finisher.output.notReadyBody)
    | some t =>
      let s := countCorrected e s
      if outputFails e tile then refuse .dataError (post (.memory .output none tile) (setOutTile tile none s))
      else (s, .reply .ok (.outputTile tile (tile % s.format.tilesAcross) (tile / s.format.tilesAcross) t))

/-- The OUTPUT_READ command. -/
def execOutputRead (f : ReqFrame) (e : Ecc) (s : State) : Host.Outcome State Fault Refusal :=
  .next (serve .outputRead f (readOne 2) (ownOutputRead e) s)

/-- A render tile is the engine's job. -/
def State.rendersTile (s : State) : Bool :=
  match s.engine.job with
  | some (.renderTile _ _ _ _) => true
  | _ => false

/-- OUTPUT.RELEASE (R168, R174). -/
def ownOutputRelease (p : Progress) (_ : Unit) (s : State) : State × Answer :=
  accept .ok (emptyOutput (if s.rendersTile then abandonedWork p s else s))

/-- The OUTPUT_RELEASE command. -/
def execOutputRelease (f : ReqFrame) (p : Progress) (s : State) : Host.Outcome State Fault Refusal :=
  .next (serve .outputRelease f readNothing (ownOutputRelease p) s)

/-- FINISH.CONFIGURE (R175). -/
def ownFinishConfigure (pedestal : Nat) (s : State) : State × Answer :=
  accept .ok { s with finisher := { s.finisher with pedestal := min pedestal 4095 } }

/-- The FINISH_CONFIGURE command. -/
def execFinishConfigure (f : ReqFrame) (s : State) : Host.Outcome State Fault Refusal :=
  .next (serve .finishConfigure f (readOne 4) ownFinishConfigure s)

/-- The RENDER_TILE command (R163): with no render tile as the engine's job it does not occur and nothing changes (log 3). -/
def execRenderTile (e : Ecc) (s : State) : Host.Outcome State Fault Refusal :=
  .next (match s.engine.job, s.finisher.output with
    | some (.renderTile tile map sky ground), .rendering r => runRenderTile e map sky ground tile r (countCorrected e s)
    | _, _ => s)

end Sys2Proof.Machine
end

