-- ==== Sys2Proof/Machine/Power.lean ====
section
/-! DEFINITION. The time base and the power controller (section 1.6, chapter 10): the POWER requests and the events CLOCK_TICK,
PROGRESS_TRANSITION, NAP_TIMER_EXPIRY, STANDBY_RESOLVE and SLEEP_WAKE_COMPLETE. -/

namespace Sys2Proof.Machine

/-! ## Progress transitions (R9, R10, R38) -/

/-- The clock value `v` is a progress transition for progress bit `n` (R9). -/
def isTransition (n v : Nat) : Bool := v % 2 ^ (n + 1) == 2 ^ n

/-- A clock advance of `k` from `old` passes over a transition (R10). -/
def passesTransition (n old k : Nat) : Bool :=
  decide (floorQ ((old : Int) - 2 ^ n) (2 ^ (n + 1)) < floorQ ((old : Int) + k - 2 ^ n) (2 ^ (n + 1)))

/-- A transition at a clock value: in INTEGRATING a PROGRESS report is posted (R38). -/
def takeProgress (v : Time) (s : State) : State :=
  if s.session.state = .integrating then
    post (.progress (s.elapsedOf v) s.session.accepted s.session.processed s.session.skyStacked s.session.groundStacked
      s.session.dropped s.tracker.state) s
  else s

/-- Take the transition that is signalled, if one is. -/
def takeProgressDue (s : State) : State :=
  match s.time.progressDue with
  | some v => takeProgress v { s with time := { s.time with progressDue := none } }
  | none => s

/-- The PROGRESS_TRANSITION command (R38). -/
def execProgressTransition (s : State) : Host.Outcome State Fault Refusal := .next (takeProgressDue s)

/-! ## Standby (R179, R180) -/

/-- Engine and sensor port are idle (R39, R51). -/
def State.allIdle (s : State) : Bool := s.engineIdle && s.portIdle

/-- Enter STANDBY: the report is posted first (R187). -/
def enterStandby (cause : PowerCause) (s : State) : State :=
  let s := post (.power .standby cause) s
  { s with power := { s.power with state := .standby, napTimer := 0 } }

/-- A pending standby is due (R180). -/
def State.standbyDue (s : State) : Bool := s.power.state == .run && s.power.pendingStandby && s.allIdle

/-- Resolve a pending standby when it is due (R180). -/
def resolveStandby (s : State) : State :=
  if s.standbyDue then enterStandby .request { s with power := { s.power with pendingStandby := false } } else s

/-- The STANDBY_RESOLVE command (R180). -/
def execStandbyResolve (s : State) : Host.Outcome State Fault Refusal := .next (resolveStandby s)

/-- POWER.STANDBY (R179). -/
def ownPowerStandby (_ : Unit) (s : State) : State × Answer :=
  if s.allIdle ∧ s.power.pendingStandby = false then accept .ok (enterStandby .request s)
  else accept .started { s with power := { s.power with pendingStandby := true } }

/-- The POWER_STANDBY command. -/
def execPowerStandby (f : ReqFrame) (s : State) : Host.Outcome State Fault Refusal :=
  .next (serve .powerStandby f readNothing ownPowerStandby s)

/-! ## Auto-nap (R182, R183) -/

/-- The nap timer has reached the nap delay (R182). -/
def State.napDue (s : State) : Bool :=
  s.power.state == .run && decide (0 < s.power.napDelay) && decide (s.power.napDelay ≤ s.power.napTimer) && s.allIdle

/-- Take the expiry of the nap timer when it is due (R182). -/
def takeNap (s : State) : State := if s.napDue then enterStandby .nap s else s

/-- The NAP_TIMER_EXPIRY command (R182). -/
def execNapTimerExpiry (s : State) : Host.Outcome State Fault Refusal := .next (takeNap s)

/-- The nap delay a POWER.NAP sets (R183). -/
def napDelayOf (delay : Nat) : Nat := if delay = 0 then 0 else clampN 100 600000 delay

/-- POWER.NAP (R183). -/
def ownPowerNap (delay : Nat) (s : State) : State × Answer :=
  accept .ok { s with power := { s.power with napDelay := napDelayOf delay, napTimer := 0 } }

/-- The POWER_NAP command. -/
def execPowerNap (f : ReqFrame) (s : State) : Host.Outcome State Fault Refusal :=
  .next (serve .powerNap f (readOne 4) ownPowerNap s)

/-! ## Sleep and wake (R184 to R186) -/

/-- Enter SLEEP. A standby that falls due at this request is resolved first and the request then wakes the part from it (R180,
R181), since a pending standby cannot be set when SLEEP is entered (R184, log 25). -/
def enterSleep (s : State) : State :=
  let s := post (.power .sleep .request) (wake .link (resolveStandby s))
  { s with power := { s.power with state := .sleep } }

/-- POWER.SLEEP, its checks in order (R184). -/
def ownPowerSleep (_ : Unit) (s : State) : State × Answer :=
  if s.session.state = .opening then refuse .wrongState s
  else if s.allIdle = false then refuse .busy s
  else if s.session.state = .armed ∨ s.session.state = .integrating ∨ s.session.state = .closing ∨ s.building = true then
    refuse .wrongState s
  else accept .ok (enterSleep s)

/-- The POWER_SLEEP command. -/
def execPowerSleep (f : ReqFrame) (s : State) : Host.Outcome State Fault Refusal :=
  .next (serve .powerSleep f readNothing ownPowerSleep s)

/-- The longest slept_ms (R186). -/
def maxSlept : Nat := 86400000

/-- Advance the clock in one step, with at most one transition, taken at the value after the advance (R10, R38). A transition
signalled before and not yet taken is taken first: none is saved for later (R38). -/
def advanceClock (k : Nat) (s : State) : State :=
  let s := takeProgressDue s
  let v := s.time.clock + BitVec.ofNat 32 k
  let passed := passesTransition s.config.progressBit s.time.clock.toNat k
  let s := { s with time := { s.time with clock := v } }
  if passed then takeProgress v s else s

/-- POWER.RUN (R186): from SLEEP the clock is advanced and the wake begins, the reply waiting for it; otherwise a pending standby
is cancelled. -/
def ownPowerRun (slept : Nat) (s : State) : State × Answer :=
  let s := { s with power := { s.power with pendingStandby := false } }
  if s.power.state = .sleep then
    let s := advanceClock (min slept maxSlept) s
    ({ s with power := { s.power with waking := true } }, .later)
  else accept .ok s

/-- The POWER_RUN command. -/
def execPowerRun (f : ReqFrame) (s : State) : Host.Outcome State Fault Refusal :=
  .next (serve .powerRun f readPowerRun ownPowerRun s)

/-- The wake from SLEEP completes (R186). -/
def completeWake (s : State) : State :=
  if s.power.waking then
    let s := { s with power := { s.power with state := .run, napTimer := 0, waking := false } }
    deliverPending .ok .empty (post (.power .run .request) s)
  else s

/-- The SLEEP_WAKE_COMPLETE command (R186). -/
def execSleepWakeComplete (s : State) : Host.Outcome State Fault Refusal := .next (completeWake s)

/-! ## The session clock (R8) -/

/-- What is due before the next millisecond is counted is taken first (log 16): a signalled transition, a pending standby, the
expiry of the nap timer. -/
def settleDue (s : State) : State := takeNap (resolveStandby (takeProgressDue s))

/-- Count one millisecond: the clock, the signal of a transition, the nap timer (R8, R9, R182). -/
def countMillisecond (s : State) : State :=
  let v := s.time.clock + 1
  let due := if isTransition s.config.progressBit v.toNat then some v else none
  let counts := s.power.state == .run && decide (0 < s.power.napDelay) && s.allIdle
  { s with
    time := ⟨v, due⟩
    power := { s.power with napTimer := if counts then s.power.napTimer + 1 else s.power.napTimer } }

/-- One tick: nothing in SLEEP, where the clock holds (R8). -/
def tick (s : State) : State := if s.power.state = .sleep then s else countMillisecond (settleDue s)

/-- The CLOCK_TICK command (R8). -/
def execClockTick (s : State) : Host.Outcome State Fault Refusal := .next (tick s)

end Sys2Proof.Machine
end

