-- ==== Sys2Proof/Machine/Sensor.lean ====
section
/-! DEFINITION. The commands of the sensor stream port (chapter 3, R39 to R47). -/

namespace Sys2Proof.Machine

/-- The port ignores all traffic in SLEEP (R39, R185). -/
def State.portDeaf (s : State) : Bool := s.power.state == .sleep

/-- A header item: the wake from STANDBY, the nap timer, the end of an arrival in progress, then stamp and checks (R11, R39,
R47, R181, R182). A pending standby that falls due when an interrupted arrival ends is not resolved before the header is judged
(DESIGN CHOICE, log 37). -/
def takeHeader (words : List Half) (s : State) : State :=
  let s := wake .header s
  let s := { s with power := { s.power with napTimer := 0 } }
  judgeHeader (readHeader words) (interruptArrival s)

/-- The SENSOR_HEADER command (R42). -/
def execSensorHeader (words : List Half) (s : State) : Host.Outcome State Fault Refusal :=
  .next (if s.portDeaf then s else takeHeader words s)

/-- A row item in a port state (R39, R45). -/
def takeRow (words : List Half) (s : State) : State :=
  match s.port.state with
  | .capturing a => captureRow a words s
  | .waiting | .skipping => s

/-- The SENSOR_ROW command (R45). -/
def execSensorRow (words : List Half) (s : State) : Host.Outcome State Fault Refusal :=
  .next (if s.portDeaf then s else takeRow words s)

/-- The SENSOR_END_MARKER command (R46). -/
def execSensorEndMarker (s : State) : Host.Outcome State Fault Refusal := .next (if s.portDeaf then s else endArrival s)

/-- The SENSOR_UNKNOWN_ITEM command: ignored in every port state (R39). -/
def execSensorUnknownItem (_words : List Half) (s : State) : Host.Outcome State Fault Refusal := .next s

end Sys2Proof.Machine
end

