-- ==== Sys2Proof/Machine/Session.lean ====
section
/-! DEFINITION. The session controller's requests (chapters 1 and 2), SYSTEM.RESET, and the event LAYER_CLEARING. -/

namespace Sys2Proof.Machine

/-! ## SENSOR.FORMAT (R20) -/

/-- Set a new format: darks, defects, regions and output go, and a CALIBRATION report counts what went (R20). -/
def changeFormat (f : Format) (s : State) : State :=
  let slots := s.calib.slots.countP fun d => match d with | .ready _ | .damaged _ => true | _ => false
  let defects := s.calib.defects.length
  let regions := s.regions.countP Option.isSome
  let s := { s with
    format := f
    calib := { s.calib with slots := s.calib.slots.map fun _ => .free, defects := [] }
    regions := s.regions.map fun _ => none }
  post (.calibration f.width f.height slots defects regions) (emptyOutput s)

/-- SENSOR.FORMAT (R20). -/
def ownSensorFormat (x : Nat × Nat) (s : State) : State × Answer :=
  let f : Format := ⟨x.1, x.2⟩
  if s.session.state ≠ .idle ∨ s.buildActive = true then refuse .wrongState s
  else if f.legal = false then refuse .badValue s
  else if f = s.format then accept .ok s
  else accept .ok (changeFormat f s)

/-- The SENSOR_FORMAT command. -/
def execSensorFormat (f : ReqFrame) (s : State) : Host.Outcome State Fault Refusal :=
  .next (serve .sensorFormat f readPair ownSensorFormat s)

/-! ## SESSION.CONFIGURE (R22) -/

/-- The checked fields are in range (R21, R22). -/
def SessionConfig.inRange (c : SessionConfig) : Bool :=
  1000 ≤ c.exposureMs && c.exposureMs ≤ 600000 && c.readoutOffset ≤ 2000 && 1000 ≤ c.whiteLevel &&
  c.whiteLevel ≤ 16383 && -74000 ≤ c.nominalRate && c.nominalRate ≤ 74000 && c.nominalRate != 0 &&
  -4000000 ≤ c.poleX && c.poleX ≤ 4000000 && -4000000 ≤ c.poleY && c.poleY ≤ 4000000 &&
  1 ≤ c.maxSubframes && c.maxSubframes ≤ 16000 && 1 ≤ c.maxDuration && c.maxDuration ≤ 28800000

/-- SESSION.CONFIGURE (R22). -/
def ownSessionConfigure (c : SessionConfig) (s : State) : State × Answer :=
  if s.session.state ≠ .idle then refuse .wrongState s
  else if c.inRange = false then refuse .badValue s
  else accept .ok { s with config := { c with progressBit := clampN 10 22 c.progressBit } }

/-- The SESSION_CONFIGURE command. -/
def execSessionConfigure (f : ReqFrame) (s : State) : Host.Outcome State Fault Refusal :=
  .next (serve .sessionConfigure f readSessionConfig ownSessionConfigure s)

/-! ## SESSION.OPEN and layer clearing (R25, R26) -/

/-- The tracker as SESSION.OPEN initializes it: as a reset but for LOL_LIMIT (R106). -/
def openTracker (t : Tracker) (c : SessionConfig) : Tracker :=
  { Tracker.afterReset t.mode t.settings c with lolLimit := t.lolLimit }

/-- What SESSION.OPEN does at once (R25). -/
def openSession (s : State) : State :=
  let s := { s with session := Session.cleared }
  let s := changeSession .opening .request s
  let s := { s with
    stars := s.stars.cleared
    tracker := openTracker s.tracker s.config
    stacker := { s.stacker with totals := Totals.zero } }
  let s := emptyOutput s
  { s with engine := { s.engine with job := some .clearing } }

/-- SESSION.OPEN (R25). -/
def ownSessionOpen (_ : Unit) (s : State) : State × Answer :=
  if s.session.state ≠ .idle then refuse .wrongState s
  else if s.buildActive ∨ s.anyFrame fun f => f.kind == .dark then refuse .busy s
  else accept .started (openSession s)

/-- The SESSION_OPEN command. -/
def execSessionOpen (f : ReqFrame) (s : State) : Host.Outcome State Fault Refusal :=
  .next (serve .sessionOpen f readNothing ownSessionOpen s)

/-- Layer clearing completes (R26). -/
def completeClearing (s : State) : State := changeSession .armed .cleared (endJob (clearLayers s))

/-- The LAYER_CLEARING command (R26). -/
def execLayerClearing (s : State) : Host.Outcome State Fault Refusal :=
  .next (if s.engine.job = some .clearing then completeClearing s else s)

/-! ## SESSION.PAUSE, RESUME, CLOSE (R33 to R35) -/

/-- SESSION.PAUSE (R33). -/
def ownSessionPause (_ : Unit) (s : State) : State × Answer :=
  if s.session.state = .integrating then accept .ok (changeSession .paused .request s) else refuse .wrongState s

/-- The SESSION_PAUSE command. -/
def execSessionPause (f : ReqFrame) (s : State) : Host.Outcome State Fault Refusal :=
  .next (serve .sessionPause f readNothing ownSessionPause s)

/-- SESSION.RESUME (R34): ARMED when the reference was lost during the pause. -/
def ownSessionResume (_ : Unit) (s : State) : State × Answer :=
  if s.session.state = .paused then
    accept .ok (takeResumeMark (changeSession (if s.session.tRef.isSome then .integrating else .armed) .request s))
  else refuse .wrongState s

/-- The SESSION_RESUME command. -/
def execSessionResume (f : ReqFrame) (s : State) : Host.Outcome State Fault Refusal :=
  .next (serve .sessionResume f readNothing ownSessionResume s)

/-- SESSION.CLOSE (R35). -/
def ownSessionClose (_ : Unit) (s : State) : State × Answer :=
  match s.session.state with
  | .armed | .integrating | .paused => accept .ok (closeSession .request s)
  | .idle | .opening | .closing | .closed => refuse .wrongState s

/-- The SESSION_CLOSE command. -/
def execSessionClose (f : ReqFrame) (s : State) : Host.Outcome State Fault Refusal :=
  .next (serve .sessionClose f readNothing ownSessionClose s)

/-! ## SESSION.DISCARD (R36) -/

/-- A staging buffer after SESSION.DISCARD: light sub-frames in processing or STAGED are freed, an arriving one is marked
ABANDONED, dark frames stay (R36). -/
def discardBuffer (b : Option SubFrame) : Option SubFrame :=
  match b with
  | none => none
  | some f =>
    match f.kind, f.stage with
    | .dark, _ => some f
    | .light, .arriving => some { f with abandoned := true }
    | .light, _ => none

/-- The engine's job after SESSION.DISCARD: clearing, a light sub-frame and a render tile are abandoned (R36, R50). -/
def discardJob : Option Job → Option Job
  | some .clearing | some (.light _) | some (.renderTile _ _ _ _) => none
  | j => j

/-- The job is one that SESSION.DISCARD abandons (R50). -/
def Job.discarded (j : Job) : Bool := discardJob (some j) == none

/-- What SESSION.DISCARD does (R36), after the work in flight has been accounted for; held settings are applied at its end
(R58). -/
def discardSession (s : State) : State :=
  let s := { s with
    staging := s.staging.map discardBuffer
    engine := { s.engine with job := discardJob s.engine.job, edits := [], resumeMark := false }
    session := { s.session with refMark := none } }
  applyHeldIfDue (changeSession .idle .request (emptyOutput s))

/-- SESSION.DISCARD (R36). -/
def ownSessionDiscard (p : Progress) (_ : Unit) (s : State) : State × Answer :=
  if s.session.state = .idle then refuse .wrongState s
  else
    let abandons := match s.engine.job with | some j => j.discarded | none => false
    accept .ok (discardSession (if abandons then abandonedWork p s else s))

/-- The SESSION_DISCARD command. -/
def execSessionDiscard (f : ReqFrame) (p : Progress) (s : State) : Host.Outcome State Fault Refusal :=
  .next (serve .sessionDiscard f readNothing (ownSessionDiscard p) s)

/-! ## SESSION.INFO (R37) and SYSTEM.RESET (R199) -/

/-- SESSION.INFO (R37): with STACK in flight, the pass counts before or after the end of each pass (R152). -/
def ownSessionInfo (_ : Unit) (s : State) : State × Answer :=
  showNow (fun v => .sessionInfo v.session v.outstandingCount) s

/-- The SESSION_INFO command. -/
def execSessionInfo (f : ReqFrame) (s : State) : Host.Outcome State Fault Refusal :=
  .next (serve .sessionInfo f readNothing ownSessionInfo s)

/-- SYSTEM.RESET (R199). -/
def ownSystemReset (p : Progress) (_ : Unit) (s : State) : State × Answer := accept .ok (softReset (abandonedWork p s))

/-- The SYSTEM_RESET command. -/
def execSystemReset (f : ReqFrame) (p : Progress) (s : State) : Host.Outcome State Fault Refusal :=
  .next (serve .systemReset f readNothing (ownSystemReset p) s)

end Sys2Proof.Machine
end

