-- ==== Sys2Proof/Machine/Dispatch.lean ====
section
/-! DEFINITION. The effect of each command: one arm for each row of spec/opcode_table.json, each one call of its meaning. -/

namespace Sys2Proof.Machine

/-- The effect of a command on everything but the queue. -/
def exec (i : Instr) (s : State) : Host.Outcome State Fault Refusal :=
  match i with
  | .ping f => Sys2Proof.Machine.execPing f s
  | .statusGet f => Sys2Proof.Machine.execStatusGet f s
  | .reportFetch f => Sys2Proof.Machine.execReportFetch f s
  | .systemReset f p => Sys2Proof.Machine.execSystemReset f p s
  | .powerStandby f => Sys2Proof.Machine.execPowerStandby f s
  | .powerSleep f => Sys2Proof.Machine.execPowerSleep f s
  | .powerRun f => Sys2Proof.Machine.execPowerRun f s
  | .powerNap f => Sys2Proof.Machine.execPowerNap f s
  | .sensorFormat f => Sys2Proof.Machine.execSensorFormat f s
  | .sessionConfigure f => Sys2Proof.Machine.execSessionConfigure f s
  | .sessionOpen f => Sys2Proof.Machine.execSessionOpen f s
  | .sessionPause f => Sys2Proof.Machine.execSessionPause f s
  | .sessionResume f => Sys2Proof.Machine.execSessionResume f s
  | .sessionClose f => Sys2Proof.Machine.execSessionClose f s
  | .sessionDiscard f p => Sys2Proof.Machine.execSessionDiscard f p s
  | .sessionInfo f => Sys2Proof.Machine.execSessionInfo f s
  | .darkBuild f => Sys2Proof.Machine.execDarkBuild f s
  | .darkEnd f => Sys2Proof.Machine.execDarkEnd f s
  | .darkAbort f p => Sys2Proof.Machine.execDarkAbort f p s
  | .darkFree f => Sys2Proof.Machine.execDarkFree f s
  | .darkList f => Sys2Proof.Machine.execDarkList f s
  | .defectAdd f => Sys2Proof.Machine.execDefectAdd f s
  | .defectRemove f => Sys2Proof.Machine.execDefectRemove f s
  | .defectClear f => Sys2Proof.Machine.execDefectClear f s
  | .defectList f => Sys2Proof.Machine.execDefectList f s
  | .starsFind f => Sys2Proof.Machine.execStarsFind f s
  | .guideList f => Sys2Proof.Machine.execGuideList f s
  | .guideAdd f => Sys2Proof.Machine.execGuideAdd f s
  | .guideDrop f => Sys2Proof.Machine.execGuideDrop f s
  | .candidateList f => Sys2Proof.Machine.execCandidateList f s
  | .starsConfigure f => Sys2Proof.Machine.execStarsConfigure f s
  | .trackConfigure f => Sys2Proof.Machine.execTrackConfigure f s
  | .trackMode f => Sys2Proof.Machine.execTrackMode f s
  | .trackSetRate f => Sys2Proof.Machine.execTrackSetRate f s
  | .trackSetPole f => Sys2Proof.Machine.execTrackSetPole f s
  | .trackStatus f => Sys2Proof.Machine.execTrackStatus f s
  | .trackClearLol f => Sys2Proof.Machine.execTrackClearLol f s
  | .regionSet f => Sys2Proof.Machine.execRegionSet f s
  | .regionClear f => Sys2Proof.Machine.execRegionClear f s
  | .regionList f => Sys2Proof.Machine.execRegionList f s
  | .stackConfigure f => Sys2Proof.Machine.execStackConfigure f s
  | .stackStatus f => Sys2Proof.Machine.execStackStatus f s
  | .tileStatus f => Sys2Proof.Machine.execTileStatus f s
  | .finishStart f => Sys2Proof.Machine.execFinishStart f s
  | .previewArea f => Sys2Proof.Machine.execPreviewArea f s
  | .outputRead f e => Sys2Proof.Machine.execOutputRead f e s
  | .outputRelease f p => Sys2Proof.Machine.execOutputRelease f p s
  | .finishConfigure f => Sys2Proof.Machine.execFinishConfigure f s
  | .unknownKindRequest kind f => Sys2Proof.Machine.execUnknownKindRequest kind f s
  | .shortRequestFrame bytes => Sys2Proof.Machine.execShortRequestFrame bytes s
  | .replyReadFrame len => Sys2Proof.Machine.execReplyReadFrame len s
  | .requestFrameWhileBusy len => Sys2Proof.Machine.execRequestFrameWhileBusy len s
  | .sensorHeader words => Sys2Proof.Machine.execSensorHeader words s
  | .sensorRow words => Sys2Proof.Machine.execSensorRow words s
  | .sensorEndMarker => Sys2Proof.Machine.execSensorEndMarker s
  | .sensorUnknownItem words => Sys2Proof.Machine.execSensorUnknownItem words s
  | .clockTick => Sys2Proof.Machine.execClockTick s
  | .progressTransition => Sys2Proof.Machine.execProgressTransition s
  | .napTimerExpiry => Sys2Proof.Machine.execNapTimerExpiry s
  | .standbyResolve => Sys2Proof.Machine.execStandbyResolve s
  | .sleepWakeComplete => Sys2Proof.Machine.execSleepWakeComplete s
  | .hardwareReset => Sys2Proof.Machine.execHardwareReset s
  | .hardwareResetDone => Sys2Proof.Machine.execHardwareResetDone s
  | .layerClearing => Sys2Proof.Machine.execLayerClearing s
  | .engineJobSelect => Sys2Proof.Machine.execEngineJobSelect s
  | .measure e => Sys2Proof.Machine.execMeasure e s
  | .track => Sys2Proof.Machine.execTrack s
  | .find e => Sys2Proof.Machine.execFind e s
  | .stack e => Sys2Proof.Machine.execStack e s
  | .darkAdd e => Sys2Proof.Machine.execDarkAdd e s
  | .darkFinalization e => Sys2Proof.Machine.execDarkFinalization e s
  | .tileStatusComputation e => Sys2Proof.Machine.execTileStatusComputation e s
  | .renderTile e => Sys2Proof.Machine.execRenderTile e s

end Sys2Proof.Machine
end

