-- ==== Sys2Proof/Safety.lean ====
section
/-! DEFINITION. What counts as a safe state and a safe run, in the terms the claims use: how a request enters and is answered,
the laws the spec states of the whole machine, and which part of the state a command may touch. -/

namespace Sys2Proof.Machine

/-! ## A request on its way -/

/-- The link takes a request frame and hands the request on: RDY is high and the part is not in SLEEP (R190 to R192). -/
def State.takes (s : State) : Prop := s.rdy = true ∧ s.power.state ≠ .sleep

/-- The part as the owner of a request finds it: the frame taken, the part awake (R181, R190, R192). -/
def State.entered (s : State) (r : Req) (f : ReqFrame) : State := wake .link (takeFrame r.code f.tag (frameLength f) s)

/-- The part with the reply to a request in the slot (R190, R192). -/
def State.answered (s : State) (r : Req) (f : ReqFrame) (st : Status) (body : Body) : State :=
  deliver r.code f.tag st body s

/-- The part while a request waits for its reply is `entered`; in SLEEP it has only taken the frame (R192). -/
def State.heard (s : State) (r : Req) (f : ReqFrame) : State := takeFrame r.code f.tag (frameLength f) s

/-- The outcome of a request that only reports: OK with a body that shows the part. With no job in flight that is the part as it
stands; else it is some moment of the job, and one free value is spent (R37, R71, R101, R102, R158, log 38). -/
def State.showsNow (s : State) (r : Req) (f : ReqFrame) (body : State → Body) (o : Host.Outcome State Fault Refusal) : Prop :=
  (s.engine.job = none → o = .next ((s.entered r f).answered r f .ok (body s))) ∧
  (s.engine.job ≠ none → ∃ p : Progress, o =
    .next ({ s.entered r f with freeSeed := s.freeSeed + 1 }.answered r f .ok (body (glimpse p (s.entered r f)))))

/-! ## Laws of the whole machine -/

/-- The report queue holds at most 32 reports (R195) and the edit queue at most 16 edits (R56). -/
def State.queuesBounded (s : State) : Prop := s.link.reports.length ≤ 32 ∧ s.engine.edits.length ≤ 16

/-- The mode fixes which states the tracker may be in, and CONVERGE and LOCKED come only with lock_run at least half the span
(R104). -/
def Tracker.lawful (t : Tracker) : Prop :=
  (match t.mode with
   | .auto => t.state ≠ .manual
   | .freerun => t.state = .freerun
   | .holdover => t.state = .holdover
   | .manual => t.state = .manual) ∧
  (t.state = .converge ∨ t.state = .locked → t.settings.halfSpan ≤ t.lockRun)

/-- The defect list holds at most 4,096 pixel indices in strictly ascending order (R75). -/
def Calibration.defectsLawful (c : Calibration) : Prop := c.defects.length ≤ 4096 ∧ c.defects.Pairwise (· < ·)

/-- The candidate list: at most 32 records, flux from highest to lowest, among equal fluxes the record admitted earlier first,
no two near each other (R95). -/
def StarUnit.candidatesLawful (u : StarUnit) : Prop :=
  u.candidates.length ≤ 32 ∧
  u.candidates.Pairwise (fun a b => b.flux < a.flux ∨ (a.flux = b.flux ∧ a.admission < b.admission)) ∧
  u.candidates.Pairwise (fun a b => a.near b = false) ∧
  ∀ c ∈ u.candidates, c.admission < u.nextAdmission

/-- The guide table has twelve slots, and no two occupied entries have reference positions near each other (R85). -/
def StarUnit.guidesLawful (u : StarUnit) : Prop :=
  u.guides.length = 12 ∧
  ∀ j k g h, u.guide j = some g → u.guide k = some h → j ≠ k → near g.refX g.refY h.refX h.refY = false

/-- The four dark slots and the build record: a slot is BUILDING or FINALIZING exactly when the build record names it, so at
most one is (R63). -/
def Calibration.buildLawful (c : Calibration) : Prop :=
  c.slots.length = 4 ∧
  ∀ k, (c.slot k).active = true ↔ ∃ b, c.build = some b ∧ b.slot = k

/-- A dark plane held by a slot is in canonical form. -/
def DarkSlot.planeWf : DarkSlot → Prop
  | .ready d | .damaged d => d.plane.wf 0 = true
  | .free | .building | .finalizing => True

/-- Every partition of the stacked DRAM is held in its one canonical form. -/
def State.memoryWf (s : State) : Prop :=
  s.stacker.sky.wf Acc.zero = true ∧ s.stacker.ground.wf Acc.zero = true ∧
  s.stacker.skyStatus.wf .normal = true ∧ s.stacker.groundStatus.wf .normal = true ∧
  s.calib.scratch.wf 0 = true ∧ s.finisher.tiles.wf none = true ∧
  (∀ d ∈ s.calib.slots, d.planeWf) ∧
  ∀ b f, s.buffer b = some f → f.samples.wf 0 = true

/-- The counts that stop at a limit stand within it: corrected errors (R198), losses of lock (R104), the session counters
(R23). -/
def State.countsBounded (s : State) : Prop :=
  s.eccCorrected ≤ 65535 ∧ s.tracker.lolCount ≤ 15 ∧
  s.session.accepted ≤ max32 ∧ s.session.processed ≤ max32 ∧ s.session.skyStacked ≤ max32 ∧
  s.session.groundStacked ≤ max32 ∧ s.session.dropped ≤ max32

/-- A part in STANDBY or SLEEP has nothing in hand: engine and sensor port are idle (R178, R180, R184). -/
def State.restsIdle (s : State) : Prop := s.power.state ≠ .run → s.allIdle = true

/-- The session is OPENING exactly while layer clearing is the engine's job (R25, R26). -/
def State.openingLawful (s : State) : Prop := s.session.state = .opening ↔ s.engine.job = some .clearing

/-- The accepted count against the count limit: OPENING has accepted nothing, a session that accepts stands below the limit, one
that has closed at most at it (R21, R25, R30). -/
def State.acceptedLawful (s : State) : Prop :=
  1 ≤ s.config.maxSubframes ∧ s.config.maxSubframes ≤ 16000 ∧
  (match s.session.state with
   | .idle => True
   | .opening => s.session.accepted = 0
   | .armed | .integrating | .paused => s.session.accepted < s.config.maxSubframes
   | .closing | .closed => s.session.accepted ≤ s.config.maxSubframes)

/-- A build is active only in IDLE and CLOSED (R63). -/
def State.buildsOutsideSession (s : State) : Prop :=
  s.session.state ≠ .idle → s.session.state ≠ .closed → s.buildActive = false

/-- The staging pool: three buffers; the one ARRIVING is the port's, the one in processing or in DARK_ADD is the engine's job,
of its kind; a frame is abandoned only while it arrives, and outside a session every light frame is (R36, R39, R48, R50). -/
def State.poolLawful (s : State) : Prop :=
  s.staging.length = 3 ∧
  (∀ b g, s.buffer b = some g → (g.stage = .arriving ↔ ∃ a, s.port.state = .capturing a ∧ a.buffer = b)) ∧
  (∀ a, s.port.state = .capturing a → s.buffer a.buffer ≠ none) ∧
  (∀ b g, s.buffer b = some g → g.stage ≠ .prepare ∧
    (g.stage = .darkAdd ∨ s.engine.job = some (.dark b) → g.kind = .dark ∧ g.stage = .darkAdd ∧ s.engine.job = some (.dark b)) ∧
    (g.stage ∈ ([.measure, .track, .find, .stack] : List Stage) ∨ s.engine.job = some (.light b) →
      g.kind = .light ∧ g.stage ∈ ([.measure, .track, .find, .stack] : List Stage) ∧ s.engine.job = some (.light b)) ∧
    (g.abandoned = true → g.kind = .light ∧ g.stage = .arriving) ∧
    (g.kind = .light → s.session.state = .idle ∨ s.session.state = .opening ∨ s.session.state = .closed →
      g.abandoned = true)) ∧
  ∀ b, s.engine.job = some (.light b) ∨ s.engine.job = some (.dark b) → s.buffer b ≠ none

/-- At most one buffer is ARRIVING and at most one holds a light sub-frame in processing (R48). -/
def State.oneOfEach (s : State) : Prop :=
  ∀ b c g h, s.buffer b = some g → s.buffer c = some h →
    (g.stage = .arriving ∧ h.stage = .arriving) ∨ (g.inProcessing = true ∧ h.inProcessing = true) → b = c

/-- Edits and settings are held only while a light sub-frame is in processing or waits for its PREPARE, so an IDLE and a CLOSED
session hold none (R56 to R58). -/
def State.heldLawful (s : State) : Prop :=
  (s.lightInProcessing = false → s.lightWaiting = false → s.engine.edits = [] ∧ s.noSettingsHeld = true) ∧
  (s.session.state = .idle ∨ s.session.state = .closed → s.engine.edits = [] ∧ s.noSettingsHeld = true)

/-- The completed passes of a layer in the session (R29). -/
def Session.passes (x : Session) : LayerId → Nat
  | .sky => x.skyStacked
  | .ground => x.groundStacked

/-- In a session no layer has more completed passes than sub-frames were accepted and have left, and once the layers are
cleared the tile status is defined and no record of a NORMAL tile has a larger count than its layer has completed passes (R29,
R30, R140, R142; a failing word leaves the records it holds unknown, R154). -/
def State.passesLawful (s : State) : Prop :=
  s.session.state ≠ .idle → ∀ l,
    s.session.passes l + s.outstandingCount ≤ s.session.accepted ∧
    (s.session.state ≠ .opening → s.stacker.statusDefined = true ∧
      ∀ a, s.tileDamaged l (a / 4096) = false → (s.stacker.record l a).count ≤ s.session.passes l)

/-- The laws of a session together: each of them needs the others to be kept. -/
def State.sessionLawful (s : State) : Prop :=
  s.openingLawful ∧ s.acceptedLawful ∧ s.buildsOutsideSession ∧ s.poolLawful ∧ s.oneOfEach ∧ s.heldLawful ∧ s.passesLawful

/-- The terms of a dark choice: T − TA lies between 0 and TB − TA, which is positive (R72). -/
def DarkChoice.lawful : DarkChoice → Prop
  | .none | .one _ => True
  | .two _ _ num den => 0 ≤ num ∧ num ≤ den ∧ 0 < den

/-- The largest plane value is 65,532 qDN (R68). -/
def DarkSlot.planeLawful : DarkSlot → Prop
  | .ready d | .damaged d => ∀ i, (d.plane.get 0 i).toNat ≤ 65532
  | .free | .building | .finalizing => True

/-- The sums of the part: |sum| ≤ 65,532 × count in every record of a NORMAL tile of either layer while the tile status is defined
(R140, R154), no plane value above 65,532 (R68), no scratch sum of a pixel above 16,383 for each frame added (R60, R65), and the
dark terms of R72. -/
def State.sumsLawful (s : State) : Prop :=
  s.calib.buildLawful ∧
  (s.stacker.statusDefined = true → ∀ l a, s.tileDamaged l (a / 4096) = false →
    (s.stacker.record l a).sum.natAbs ≤ 65532 * (s.stacker.record l a).count) ∧
  (∀ d ∈ s.calib.slots, d.planeLawful) ∧
  (∀ bd, s.calib.build = some bd →
    (bd.fresh = true → bd.added = 0) ∧
    (bd.fresh = false → ∀ i, i < s.format.pixelCount → (s.calib.scratch.get 0 i).toNat ≤ 16383 * bd.added)) ∧
  ∀ b f, s.buffer b = some f → f.darkChoice.lawful

/-- `Inv` is kept by every step of the machine. -/
def KeptByEveryStep (Inv : State → Prop) : Prop := ∀ s t, Inv s → step s = .next t → Inv t

/-! ## Edits and settings that requests carry -/

/-- The edit that a request carries when it passes the checks made on receipt (R98, R100, R125, R135, R136, R138). -/
def State.editOf (s : State) : Instr → Option Edit
  | .regionSet f =>
    (readRegion f.payload).bind fun x =>
      let across := s.format.width / 64
      let down := s.format.height / 64
      let cls : Option TileClass :=
        if x.cls = 0 then some .sky
        else if x.cls = 1 then some .ground
        else if x.cls = 3 then some .exclude
        else if x.cls = 2 then x.cut.bind fun c => if c.1 ≤ 64 ∧ c.2 ≤ 64 then some (.horizon c.1 c.2) else none
        else none
      if x.index ≤ 63 ∧ x.tw ≠ 0 ∧ x.th ≠ 0 ∧ x.tx < across ∧ x.ty < down then
        cls.map fun c => .regionSet x.index ⟨x.tx, x.ty, min x.tw (across - x.tx), min x.th (down - x.ty), c⟩
      else none
  | .regionClear f =>
    (readOne 4 f.payload).bind fun k =>
      if k = 0xFFFFFFFF then some (.regionClear none) else if k ≤ 63 then some (.regionClear (some k)) else none
  | .guideAdd f =>
    (readPosition f.payload).bind fun p =>
      if (s.session.state = .armed ∨ s.session.state = .integrating ∨ s.session.state = .paused) ∧
          0 ≤ p.1 ∧ p.1 ≤ 8 * (s.format.width : Int) - 1 ∧ 0 ≤ p.2 ∧ p.2 ≤ 8 * (s.format.height : Int) - 1
      then some (.guideAdd p.1 p.2) else none
  | .guideDrop f =>
    (readOne 1 f.payload).bind fun k =>
      if (s.session.state = .armed ∨ s.session.state = .integrating ∨ s.session.state = .paused) ∧ k ≤ 11
      then some (.guideDrop k) else none
  | .trackSetPole f =>
    (readPosition f.payload).bind fun p =>
      if (s.session.state = .armed ∨ s.session.state = .integrating ∨ s.session.state = .paused ∨
            s.session.state = .closing) ∧
          -4000000 ≤ p.1 ∧ p.1 ≤ 4000000 ∧ -4000000 ≤ p.2 ∧ p.2 ≤ 4000000
      then some (.setPole p.1 p.2) else none
  | _ => none

/-- The payload of an edit request holds the fields of its request (R193). -/
def editReadable : Instr → Bool
  | .regionSet f => (readRegion f.payload).isSome
  | .regionClear f => (readOne 4 f.payload).isSome
  | .guideAdd f | .trackSetPole f => (readPosition f.payload).isSome
  | .guideDrop f => (readOne 1 f.payload).isSome
  | _ => false

/-- The session state in which a request for an edit is refused with WRONG_STATE (R98, R100, R125). -/
def State.editWrongState (s : State) (r : Req) : Prop :=
  ((r = .guideAdd ∨ r = .guideDrop) ∧
    ¬(s.session.state = .armed ∨ s.session.state = .integrating ∨ s.session.state = .paused)) ∨
  (r = .trackSetPole ∧
    ¬(s.session.state = .armed ∨ s.session.state = .integrating ∨ s.session.state = .paused ∨ s.session.state = .closing))

/-- A number clamped to a range (00_scope, Conventions). -/
def within (lo hi n : Nat) : Nat := if n < lo then lo else if hi < n then hi else n

/-- A gain set in its ranges (R105). -/
def gainsWithin (g : Gains) : Gains := ⟨within 0 255 g.pMult, within 0 24 g.pShift, within 0 255 g.iMult, within 0 24 g.iShift⟩

/-- The fields of TRACK.CONFIGURE in their ranges (R105, R122). -/
def trackFieldsWithin (x : TrackFields) : TrackFields where
  acquire := x.acquire.map gainsWithin
  normal := x.normal.map gainsWithin
  maxStep := x.maxStep.map (within 0 10000000)
  rateSlopeLimit := x.rateSlopeLimit.map (within 0 10000)
  lockThreshold := x.lockThreshold.map (within 0 10000000)
  unlockThreshold := x.unlockThreshold.map (within 0 10000000)
  outlierGate := x.outlierGate.map (within 0 100000000)
  lockSpan := x.lockSpan.map (within 2 64)
  minGuides := x.minGuides.map (within 2 12)
  refillLevel := x.refillLevel.map (within 2 12)
  holdoverHistory := x.holdoverHistory.map (within 0 16)
  holdoverLimit := x.holdoverLimit.map (within 0 1000)
  lolThreshold := x.lolThreshold.map (within 0 15)

/-- The fields of STACK.CONFIGURE in their ranges; a reject mode code that is none of the three refuses the request (R156,
R157, R204). -/
def stackFieldsWithin (x : StackFields) : Option StackPending :=
  if (∃ code, x.rejectMode = some code ∧ 2 < code) then none
  else some
    { rejectMode := x.rejectMode.map fun code => if code = 0 then .off else if code = 1 then .high else .both
      kq := x.kq.map (within 16 160)
      readVariance := x.readVariance.map (within 0 1048575)
      shot := x.shot.map (within 0 65535)
      rejectMinCount := x.rejectMinCount.map (within 2 255)
      gateMargin := x.gateMargin.map (within 0 262128)
      stackWhileAcquiring := x.acquiring.map fun n => decide (n ≠ 0) }

/-- The settings that a request carries, clamped on receipt (R103, R122 to R124, R157). -/
def settingsOf : Instr → Option (TrackPending × StarPending × StackPending)
  | .trackConfigure f => (readTrackFields f.payload).map fun x => ({ fields := trackFieldsWithin x }, {}, {})
  | .trackMode f =>
    (readOne 1 f.payload).bind fun code =>
      if 3 < code then none
      else
        let m : TrackMode :=
          if code = 0 then .auto else if code = 1 then .freerun else if code = 2 then .holdover else .manual
        some ({ mode := some m }, {}, {})
  | .trackSetRate f =>
    (readOneS f.payload).bind fun r =>
      if r = 0 then none
      else some ({ rate := some (if r < -74000 then -74000 else if 74000 < r then 74000 else r) }, {}, {})
  | .starsConfigure f =>
    (readStarFields f.payload).map fun x =>
      ({}, ⟨x.starThreshold.map (within 0 262128), x.minFlux.map (within 1 100000000),
            x.findThreshold.map (within 1 262128)⟩, {})
  | .stackConfigure f => ((readStackFields f.payload).bind stackFieldsWithin).map fun x => ({}, {}, x)
  | _ => none

/-! ## What the data path gives when no word read is uncorrectable -/

/-- The raw and calibrated value of a sub-frame's pixel, or nothing for a defect pixel (R1, R73). -/
def State.viewOf (s : State) (f : SubFrame) (p : Nat × Nat) : Option (Nat × Int) :=
  let i := p.2 * s.format.width + p.1
  let raw := min (f.samples.get 0 i).toNat 16383
  if i ∈ s.calib.defects then none else some (raw, 4 * (raw : Int) - s.calib.darkValue f.darkChoice i)

/-- The measurement of the window centred on a cell (R81 to R83). -/
def State.windowOf (s : State) (f : SubFrame) (c : Int × Int) : Measurement :=
  measureWindow s.stars.settings s.config c.1 c.2 (cellsOf ((pixelsOfCells (windowCells c.1 c.2)).map (s.viewOf f)))

/-- The value of a cell: the sum of its four calibrated values, none for a defect cell (R2, R81). -/
def State.cellValue (s : State) (f : SubFrame) (i j : Int) : Option Int :=
  let view := fun px py : Int => s.viewOf f (px.toNat, py.toNat)
  match view (2 * i) (2 * j), view (2 * i + 1) (2 * j), view (2 * i) (2 * j + 1), view (2 * i + 1) (2 * j + 1) with
  | some a, some b, some c, some d => some (a.2 + b.2 + c.2 + d.2)
  | _, _, _, _ => none

/-- The finder considers cell (i, j): 8 cells from every edge, all four pixels sky-routed (R93). -/
def State.cellInView (s : State) (i j : Nat) : Bool :=
  decide (8 ≤ i ∧ i + 8 < s.format.width / 2 ∧ 8 ≤ j ∧ j + 8 < s.format.height / 2) &&
    [(2 * i, 2 * j), (2 * i + 1, 2 * j), (2 * i, 2 * j + 1), (2 * i + 1, 2 * j + 1)].all
      fun p => routePixel s.regions s.format (p.1 : Nat) (p.2 : Nat) == .sky

/-- Cell (i, j) with value `v` and background `bg` is a peak (R93). -/
def State.isPeak (s : State) (f : SubFrame) (i j : Int) (v bg : Int) : Bool :=
  ([(i - 1, j - 1), (i, j - 1), (i + 1, j - 1), (i - 1, j)].all fun c =>
    match s.cellValue f c.1 c.2 with | some w => decide (w < v) | none => true) &&
  ([(i + 1, j), (i - 1, j + 1), (i, j + 1), (i + 1, j + 1)].all fun c =>
    match s.cellValue f c.1 c.2 with | some w => decide (w ≤ v) | none => true) &&
  decide (s.stars.settings.findThreshold ≤ v - bg)

/-- A position is near the reference position of an occupied guide (R86). -/
def State.nearGuide (s : State) (r : Int × Int) : Bool :=
  (List.range 12).any fun k =>
    match s.stars.guide k with
    | some g => decide ((r.1 - g.refX).natAbs ≤ 128 ∧ (r.2 - g.refY).natAbs ≤ 128)
    | none => false

/-- The candidate record that the scan offers from the cell with raster index `n`, if it offers one (R93, R94). -/
def State.candidateAt (s : State) (f : SubFrame) (n : Nat) : Option Candidate :=
  let i := n % (s.format.width / 2)
  let j := n / (s.format.width / 2)
  let window := s.windowOf f (i, j)
  match s.cellValue f i j, window.background, window.centroid with
  | some v, some bg, some q =>
    let r := s.tracker.derotate f.finS f.finC q
    if s.cellInView i j && s.isPeak f i j v bg && placeable s.regions s.format i j && !s.nearGuide r then
      some ⟨r.1, r.2, window.flux, f.sequence, 0⟩
    else none
  | _, _, _ => none

/-- The star unit after the scan of the first `n` cells, the arming cleared at the decision (R92 to R95). -/
def State.scanned (s : State) (f : SubFrame) (n : Nat) : StarUnit :=
  (List.range n).foldl (fun u k => match s.candidateAt f k with | some c => offerCandidate c u | none => u)
    { s.stars with armed := false }

/-- One admission of refill from `s` to `t`: the first record of the candidate list that passes the admission tests at a pair
leaves the list for the EMPTY slot of lowest index (R96). -/
def State.admitsNext (sn cs : Int) (s t : State) : Prop :=
  ∃ (k : Nat) (c : Candidate) (before after : List Candidate),
    s.stars.occupiedCount < s.tracker.settings.refillLevel ∧
    k < 12 ∧ s.stars.guide k = none ∧ (∀ j, j < k → s.stars.guide j ≠ none) ∧
    s.stars.candidates = before ++ c :: after ∧
    (∀ d ∈ before, admissionFailure s sn cs (d.refX, d.refY) ≠ none) ∧
    admissionFailure s sn cs (c.refX, c.refY) = none ∧
    t = post (.guide (some k) .admitted none)
      { s with stars := { s.stars with
          candidates := before ++ after
          guides := s.stars.guides.set k (some ⟨.probation, c.refX, c.refY, c.flux, none, none, none, 0, 0, none⟩) } }

/-- An offer of pixel (sx, sy) to the record of (px, py) in a layer is rejected (R144, R145). -/
def State.offerRejected (s : State) (f : SubFrame) (l : LayerId) (px py sx sy : Nat) : Bool :=
  match s.viewOf f (sx, sy) with
  | none => false
  | some (raw, c) =>
    !s.tileDamaged l (s.format.tileOfPixel px py) && decide (raw < s.config.whiteLevel) &&
      rejects s.stacker.settings (s.stacker.record l (s.format.recordAddress px py)) c

/-- An offer of pixel (sx, sy) to the record of (px, py) in a layer is clipped (R144). -/
def State.offerClipped (s : State) (f : SubFrame) (l : LayerId) (px py sx sy : Nat) : Bool :=
  match s.viewOf f (sx, sy) with
  | none => false
  | some (raw, _) => !s.tileDamaged l (s.format.tileOfPixel px py) && decide (s.config.whiteLevel ≤ raw)

/-- The pixel that visit `n` of a pass takes: tiles in index order, then rows for the ground layer (R146), cells and the four
pixels of each for the sky layer (R147). -/
def Format.visited (f : Format) (n : Nat) : LayerId → Nat × Nat
  | .ground => (n / 4096 % (f.width / 64) * 64 + n % 64, n / 4096 / (f.width / 64) * 64 + n % 4096 / 64)
  | .sky => (n / 4096 % (f.width / 64) * 64 + n % 128 / 4 * 2 + n % 2,
      n / 4096 / (f.width / 64) * 64 + n % 4096 / 128 * 2 + n % 4 / 2)

/-- The source pixel of a target pixel of a layer when the target is routed to the layer and a source pixel exists (R146 to
R148). -/
def State.sourceOf (s : State) (f : SubFrame) (l : LayerId) (p : Nat × Nat) : Option (Nat × Nat) :=
  match l with
  | .ground => if routePixel s.regions s.format p.1 p.2 = .ground then some p else none
  | .sky =>
    let q := s.tracker.sourcePixel f.finS f.finC p.1 p.2
    if routePixel s.regions s.format p.1 p.2 = .sky ∧ routePixel s.regions s.format q.1 q.2 = .sky then
      some (q.1.toNat, q.2.toNat)
    else none

/-- How many offers of a whole pass have an outcome, those left out by `omits` (target, source) apart (R144). -/
def State.tally (s : State) (f : SubFrame) (l : LayerId) (omits : Nat × Nat → Nat × Nat → Bool)
    (outcome : State → SubFrame → LayerId → Nat → Nat → Nat → Nat → Bool) : Nat :=
  (List.range (s.format.width * s.format.height)).countP fun n =>
    let p := s.format.visited n l
    match s.sourceOf f l p with
    | some q => !omits p q && outcome s f l p.1 p.2 q.1 q.2
    | none => false

/-- Word `w` of a layer partition holds a part of the six bytes of the record at address `a` (R141). -/
def wordHolds (w a : Nat) : Prop := w = a * 6 / 8 ∨ w = (a * 6 + 5) / 8

/-- The visit of a pass that takes a pixel, the inverse of `visited` (R146, R147). -/
def Format.visitOf (f : Format) (p : Nat × Nat) : LayerId → Nat
  | .ground => f.recordAddress p.1 p.2
  | .sky => f.tileOfPixel p.1 p.2 * 4096 + (p.2 % 64 / 2 * 32 + p.1 % 64 / 2) * 4 + p.2 % 2 * 2 + p.1 % 2

/-- The pass of layer `l` reads for target pixel `p` its source pixel `q`: `q` is no defect pixel and the tile of `p` NORMAL
(R144). -/
def State.passReads (s : State) (f : SubFrame) (l : LayerId) (p q : Nat × Nat) : Prop :=
  p.1 < s.format.width ∧ p.2 < s.format.height ∧ s.sourceOf f l p = some q ∧
  q.2 * s.format.width + q.1 ∉ s.calib.defects ∧ s.tileDamaged l (s.format.tileOfPixel p.1 p.2) = false

/-- The record of target pixel (px, py) in a layer after the sub-frame's pixel (sx, sy) has been offered to it (R144). -/
def State.recordAfter (s : State) (f : SubFrame) (l : LayerId) (px py sx sy : Nat) : Acc :=
  let r := s.stacker.record l (s.format.recordAddress px py)
  match s.viewOf f (sx, sy) with
  | none => r
  | some (raw, c) =>
    if s.tileDamaged l (s.format.tileOfPixel px py) then r
    else if s.config.whiteLevel ≤ raw then { r with clipped := true }
    else if rejects s.stacker.settings r c then r
    else { r with sum := r.sum + c, count := r.count + 1 }

/-! ## What a failing memory word does -/

/-- Reports posted one after another (R195). -/
def postAll (rs : List Report) (s : State) : State := rs.foldl (fun u r => post r u) s

/-- A word that holds a part of the record at address `a` of a layer is uncorrectable in `e` (R141, R154). -/
def recordLost (e : Ecc) (l : LayerId) (a : Nat) : Prop := ∃ site w, wordHolds w a ∧ ⟨site, l.word w⟩ ∈ e.uncorrectable

/-- `u` is `s` after a record of tile `k` of layer `l`, NORMAL before, could not be read: the tile is DAMAGED with damage sequence
`q`, counted and reported, and of the layers' records only those held in uncorrectable words of the tile may have changed
(R154). -/
def State.damages (s : State) (e : Ecc) (l : LayerId) (k : Nat) (q : Option Nat) (u : State) : Prop :=
  let n := fun m => if l = m then 1 else 0
  u = { post (.memory (match l with | .sky => .skyLayer | .ground => .groundLayer) none k) s with
    freeSeed := s.freeSeed + 1
    stacker := { s.stacker with
      sky := u.stacker.sky, ground := u.stacker.ground, skyStatus := u.stacker.skyStatus, groundStatus := u.stacker.groundStatus
      totals := { s.stacker.totals with damagedSky := s.stacker.totals.damagedSky + n .sky
                                        damagedGround := s.stacker.totals.damagedGround + n .ground } } } ∧
  (∀ m j, u.tileStatusOf m j = if m = l ∧ j = k then .damaged q else s.tileStatusOf m j) ∧
  ∀ m a, u.stacker.record m a = s.stacker.record m a ∨ m = l ∧ a / 4096 = k ∧ recordLost e l a

/-- How the layers of `t` stand once the job in flight in `s`, which met the errors of `e`, has stopped where it stood: a record is
the old one, or cleared by a clearing (R26), or in STACK the one after its offer (R153), or held in a word that the job found
uncorrectable (R154). -/
def State.layersStopped (s : State) (e : Ecc) (t : State) : Prop :=
  let same := fun l a => t.stacker.record l a = s.stacker.record l a
  let inStack := fun b g => s.engine.job = some (.light b) ∧ s.buffer b = some g ∧ g.stage = .stack
  let reads := (∃ k, s.engine.job = some (.tileStatus k)) ∨ ∃ k m x y, s.engine.job = some (.renderTile k m x y)
  ((∀ b g, ¬inStack b g) → ∀ l a, same l a ∨ (reads ∧ recordLost e l a) ∨
    (s.engine.job = some .clearing ∧ t.stacker.record l a = ⟨0, 0, false⟩)) ∧
  ∀ b g, inStack b g → s.stacker.statusDefined = true → s.format.legal = true → ∀ l a, same l a ∨ recordLost e l a ∨
    ∃ px py q, px < s.format.width ∧ py < s.format.height ∧ a = s.format.recordAddress px py ∧
      s.sourceOf g l (px, py) = some q ∧ t.stacker.record l a = s.recordAfter g l px py q.1 q.2

/-- The raw value that the add sweep takes for a pixel: 16,383 where its staging word is uncorrectable (R60, R65). -/
def SubFrame.addedAt (g : SubFrame) (e : Ecc) (i : Nat) : Nat :=
  if ⟨.addSweep, .staging (i / 4)⟩ ∈ e.uncorrectable then 16383 else min (g.samples.get 0 i).toNat 16383

/-- The scratch word of a pixel is read for the add and is uncorrectable (R65). -/
def Build.sumLost (bd : Build) (e : Ecc) (i : Nat) : Bool :=
  !bd.fresh && decide (⟨.addSweep, .scratch (i / 2)⟩ ∈ e.uncorrectable)

/-- The scratch sum of a pixel after the add (R65). -/
def State.sumAfterAdd (s : State) (g : SubFrame) (bd : Build) (e : Ecc) (i : Nat) : Nat :=
  if bd.fresh then g.addedAt e i
  else if bd.sumLost e i then 16383 * (bd.added + 1)
  else (s.calib.scratch.get 0 i).toNat + g.addedAt e i

/-- The MEMORY reports of the first `n` pixels of an add sweep: each failing staging word, and the first failing scratch word (R60,
R65, log 22). -/
def State.addReports (s : State) (bd : Build) (e : Ecc) (n : Nat) : List Report :=
  (List.range n).flatMap fun i =>
    (if ⟨.addSweep, .staging (i / 4)⟩ ∈ e.uncorrectable ∧ i % 4 = 0 then [.memory .staging none (s.format.tileOfIndex i)]
     else []) ++
    (if bd.sumLost e i = true ∧ ∀ j, j < i → bd.sumLost e j = false then
      [.memory .darkScratch (some bd.slot) (s.format.tileOfIndex i)] else [])

/-- The plane value of a pixel: 65,532 where its scratch word is uncorrectable (R68). -/
def State.finalQ (s : State) (bd : Build) (e : Ecc) (i : Nat) : Nat :=
  if ⟨.finalization, .scratch (i / 2)⟩ ∈ e.uncorrectable then 65532
  else (8 * (s.calib.scratch.get 0 i).toNat + bd.added) / (2 * bd.added)

/-- A finalization offers the pixel to the defect list (R68). -/
def State.finalHot (s : State) (bd : Build) (e : Ecc) (i : Nat) : Bool :=
  decide (0 < bd.hotLevel ∧ bd.hotLevel ≤ s.finalQ bd e i)

/-- The MEMORY report of the first `n` pixels of a finalization: the first failing scratch word (R68). -/
def State.finalReports (s : State) (bd : Build) (e : Ecc) (n : Nat) : List Report :=
  match (List.range n).find? fun i => decide (⟨.finalization, .scratch (i / 2)⟩ ∈ e.uncorrectable) with
  | some i => [.memory .darkScratch (some bd.slot) (s.format.tileOfIndex i)]
  | none => []

/-- `new` is the defect list `s` has after `n` pixels of a finalization, of which `notAdded` found no room (R68, R75). -/
def State.defectsGrown (s : State) (bd : Build) (e : Ecc) (n : Nat) (new : List Nat) (notAdded : Nat) : Prop :=
  let hot := s.finalHot bd e
  (∀ i, i ∈ new → i ∈ s.calib.defects ∨ i < n ∧ hot i = true) ∧ (∀ i ∈ s.calib.defects, i ∈ new) ∧
  (s.calib.defects.length + (List.range n).countP hot ≤ 4096 → notAdded = 0 ∧ ∀ i, i < n → hot i = true → i ∈ new) ∧
  (bd.hotLevel = 0 → new = s.calib.defects ∧ notAdded = 0)

/-- The mean that a neighbour gives to the hole fill (R166). -/
def State.neighbourOf (s : State) (map : List (Option Region)) (l : LayerId) (p : Int × Int) : Option Int :=
  let px := p.1.toNat
  let py := p.2.toNat
  let r := s.stacker.record l (s.format.recordAddress px py)
  if (routePixel map s.format p.1 p.2).layer = some l ∧ s.tileDamaged l (s.format.tileOfPixel px py) = false ∧ 0 < r.count
  then some (floorQ (2 * r.sum + r.count) (2 * r.count)) else none

/-- The output of a pixel (R164 to R167). -/
def State.outputOf (s : State) (map : List (Option Region)) (pedestal px py : Nat) : Int :=
  match (routePixel map s.format px py).layer with
  | none => pedestal
  | some l =>
    let r := s.stacker.record l (s.format.recordAddress px py)
    if s.tileDamaged l (s.format.tileOfPixel px py) then pedestal
    else if 0 < r.count then clamp 0 65535 (floorQ (2 * r.sum + r.count) (2 * r.count) + pedestal)
    else if r.clipped then 65535
    else
      let means := [((px : Int), (py : Int) - 2), (px, py + 2), (px - 2, py), (px + 2, py)].filterMap (s.neighbourOf map l)
      if means = [] then pedestal else clamp 0 65535 (floorQ means.sum means.length + pedestal)

/-- A pixel is taken from a layer that holds no sample of it and whose tile is NORMAL; `clipped` says what its flag is
(R165). -/
def State.holeAt (s : State) (map : List (Option Region)) (clipped : Bool) (px py : Nat) : Bool :=
  match (routePixel map s.format px py).layer with
  | none => false
  | some l =>
    let r := s.stacker.record l (s.format.recordAddress px py)
    !s.tileDamaged l (s.format.tileOfPixel px py) && r.count == 0 && r.clipped == clipped

/-! ## The dark choice, the holdover rate, a dropped light sub-frame -/

/-- `c` is the dark choice for temperature `t` (R72): among the READY slots of the session's exposure, the lowest or the highest
temperature at or outside the ends, else the two neighbours of `t`; the slot of lower index where temperatures are equal. -/
def State.darkChosen (s : State) (t : Int) (c : DarkChoice) : Prop :=
  let eligible := fun (k : Nat) (x : Int) =>
    ∃ d, s.calib.slot k = .ready d ∧ d.exposureMs = s.config.exposureMs ∧ d.temperature = x
  let first := fun (k : Nat) (x : Int) => eligible k x ∧ ∀ j, j < k → ¬eligible j x
  ((∀ k x, ¬eligible k x) → c = .none) ∧
  (∀ k x, first k x → (∀ j y, eligible j y → x ≤ y) → t ≤ x → c = .one k) ∧
  (∀ k x, first k x → (∀ j y, eligible j y → y ≤ x) → x ≤ t → c = .one k) ∧
  ∀ a b x y, first a x → first b y → x ≤ t → t < y → (∃ j z, eligible j z ∧ z < t) →
    (∀ j z, eligible j z → z ≤ t → z ≤ x) → (∀ j z, eligible j z → t < z → y ≤ z) → c = .two a b (t - x) (y - x)

/-- The rate on entry to HOLDOVER: the mean, toward zero, of the newest holdover_history entries of the history or of all when
it holds fewer; the rate unchanged where that is none (R118). -/
def Tracker.heldRate (t : Tracker) : Int :=
  let newest := (t.history.reverse.take t.settings.holdoverHistory)
  if newest = [] then t.rate else Int.tdiv newest.sum newest.length

/-- The frame is an outstanding light sub-frame of the session (R23). -/
def SubFrame.isOutstanding (g : SubFrame) : Prop := g.kind = .light ∧ g.abandoned = false

/-- Buffer `c` holds the oldest outstanding light sub-frame, `h` (R28, R44). -/
def State.eldest (s : State) (c : Nat) (h : SubFrame) : Prop :=
  c < 3 ∧ s.buffer c = some h ∧ h.isOutstanding ∧
  (∀ k x, s.buffer k = some x → x.isOutstanding → (x.acceptance - h.acceptance).msb = false) ∧
  ∀ k x, k < c → s.buffer k = some x → x.isOutstanding → x.acceptance ≠ h.acceptance

/-- What the drop of an accepted frame of buffer `b` always does: the buffer is FREE and the drop bookkeeping taken; `counts`
says that the session counts it (R29, R43, R46, R59). -/
def State.dropTaken (s : State) (b : Nat) (g : SubFrame) (reason : DropReason) (m : Option Malformation) (counts : Bool) : State :=
  post (.subframeDropped g.sequence reason m)
    { s with
      staging := s.staging.set b none
      port := { s.port with dropped := some (g.sequence, reason), dropTotal := s.port.dropTotal + 1 }
      session := { s.session with dropped := if counts then (min (s.session.dropped + 1) 4294967295) else s.session.dropped } }

/-- `t` follows once a light sub-frame has left the pool: CLOSING ends when none is outstanding (R32), then held edits and settings
are applied when they are due (R58). -/
def State.lightLeft (s t : State) : Prop :=
  let ends := s.session.state = .closing ∧ ∀ c h, s.buffer c = some h → ¬h.isOutstanding
  (ends → t = applyHeldIfDue (post (.session .closed .drained) { s with session := { s.session with state := .closed } })) ∧
  (¬ends → t = applyHeldIfDue s)

/-- `t` follows from the drop of the accepted light sub-frame `g` of buffer `b`: the bookkeeping, the loss of the reference role
and its successor (R28), the end of CLOSING (R32), and the held edits and settings when they are due (R58). -/
def State.lightDropped (s : State) (b : Nat) (g : SubFrame) (reason : DropReason) (m : Option Malformation) (t : State) : Prop :=
  let d := s.dropTaken b g reason m (decide (s.session.state ≠ .idle))
  ∃ r : State,
    (s.session.refMark ≠ some b → r = d) ∧
    (s.session.refMark = some b →
      (∀ c h, d.eldest c h → r =
        { d with staging := d.staging.set c (some { h with reference := true })
                 session := { d.session with tRef := some h.tMid, refMark := some c } }) ∧
      ((∀ c h, d.buffer c = some h → ¬h.isOutstanding) → r =
        (if d.session.state = .integrating then
          post (.session .armed .referenceLost)
            { d with session := { d.session with tRef := none, refMark := none, state := .armed } }
         else { d with session := { d.session with tRef := none, refMark := none } }))) ∧
    r.lightLeft t

/-! ## Frames -/

/-- What no stage of a light sub-frame before STACK touches: time, power, format, configuration, regions, both layers and
their status, the stacker's totals, and the output buffer. -/
def State.sameOutsideSubframe (s t : State) : Prop :=
  t.time = s.time ∧ t.power = s.power ∧ t.format = s.format ∧ t.config = s.config ∧ t.regions = s.regions ∧
  t.stacker = s.stacker ∧ t.finisher = s.finisher

end Sys2Proof.Machine
end

