-- ==== Sys2Proof/WellFormed.lean ====
section
/-! DEFINITION. Which commands can come from the wires: the checks a term of `Instr` must pass to stand for something the
host, the front end or the part can send. No meaning relies on them; they are hypotheses of the encoding statements. -/

namespace Sys2Proof

/-- The payload of a request is a whole number of 4-byte words, at most 64 (R189, R202). -/
def ReqFrame.wf (f : ReqFrame) : Bool :=
  f.payload.length % 4 == 0 && f.payload.length ≤ 256

/-- A frame is short: it begins with the start byte and fails one of R189's three tests. -/
def isShortFrame (bytes : List Byte) : Bool :=
  match bytes with
  | [] => false
  | b :: after =>
    b == startByte &&
      (match after with
       | _ :: _ :: lo :: hi :: rest => decide (64 < lengthField lo hi ∨ rest.length < 4 * lengthField lo hi)
       | _ => true)

/-- The first word names no kind of item (R39). -/
def isUnknownItem (words : List Half) : Bool :=
  match words with
  | [] => true
  | w :: _ => w != headerWord && w != rowWord && w != endWord

/-- The request frame of a command that carries one. -/
def Instr.frame? : Instr → Option ReqFrame
  | .ping f | .statusGet f | .reportFetch f | .systemReset f _ | .powerStandby f | .powerSleep f | .powerRun f
  | .powerNap f | .sensorFormat f | .sessionConfigure f | .sessionOpen f | .sessionPause f | .sessionResume f
  | .sessionClose f | .sessionDiscard f _ | .sessionInfo f | .darkBuild f | .darkEnd f | .darkAbort f _ | .darkFree f
  | .darkList f | .defectAdd f | .defectRemove f | .defectClear f | .defectList f | .starsFind f | .guideList f
  | .guideAdd f | .guideDrop f | .candidateList f | .starsConfigure f | .trackConfigure f | .trackMode f
  | .trackSetRate f | .trackSetPole f | .trackStatus f | .trackClearLol f | .regionSet f | .regionClear f
  | .regionList f | .stackConfigure f | .stackStatus f | .tileStatus f | .finishStart f | .previewArea f
  | .outputRead f _ | .outputRelease f _ | .finishConfigure f | .unknownKindRequest _ f => some f
  | .shortRequestFrame _ | .replyReadFrame _ | .requestFrameWhileBusy _ | .sensorHeader _ | .sensorRow _
  | .sensorEndMarker | .sensorUnknownItem _ | .clockTick | .progressTransition | .napTimerExpiry | .standbyResolve
  | .sleepWakeComplete | .hardwareReset | .hardwareResetDone | .layerClearing | .engineJobSelect | .measure _ | .track
  | .find _ | .stack _ | .darkAdd _ | .darkFinalization _ | .tileStatusComputation _ | .renderTile _ => none

/-- The request kind of a command that is one of the 48 requests (R203). -/
def Instr.req? : Instr → Option Req
  | .ping _ => some .ping
  | .statusGet _ => some .statusGet
  | .reportFetch _ => some .reportFetch
  | .systemReset _ _ => some .systemReset
  | .powerStandby _ => some .powerStandby
  | .powerSleep _ => some .powerSleep
  | .powerRun _ => some .powerRun
  | .powerNap _ => some .powerNap
  | .sensorFormat _ => some .sensorFormat
  | .sessionConfigure _ => some .sessionConfigure
  | .sessionOpen _ => some .sessionOpen
  | .sessionPause _ => some .sessionPause
  | .sessionResume _ => some .sessionResume
  | .sessionClose _ => some .sessionClose
  | .sessionDiscard _ _ => some .sessionDiscard
  | .sessionInfo _ => some .sessionInfo
  | .darkBuild _ => some .darkBuild
  | .darkEnd _ => some .darkEnd
  | .darkAbort _ _ => some .darkAbort
  | .darkFree _ => some .darkFree
  | .darkList _ => some .darkList
  | .defectAdd _ => some .defectAdd
  | .defectRemove _ => some .defectRemove
  | .defectClear _ => some .defectClear
  | .defectList _ => some .defectList
  | .starsFind _ => some .starsFind
  | .guideList _ => some .guideList
  | .guideAdd _ => some .guideAdd
  | .guideDrop _ => some .guideDrop
  | .candidateList _ => some .candidateList
  | .starsConfigure _ => some .starsConfigure
  | .trackConfigure _ => some .trackConfigure
  | .trackMode _ => some .trackMode
  | .trackSetRate _ => some .trackSetRate
  | .trackSetPole _ => some .trackSetPole
  | .trackStatus _ => some .trackStatus
  | .trackClearLol _ => some .trackClearLol
  | .regionSet _ => some .regionSet
  | .regionClear _ => some .regionClear
  | .regionList _ => some .regionList
  | .stackConfigure _ => some .stackConfigure
  | .stackStatus _ => some .stackStatus
  | .tileStatus _ => some .tileStatus
  | .finishStart _ => some .finishStart
  | .previewArea _ => some .previewArea
  | .outputRead _ _ => some .outputRead
  | .outputRelease _ _ => some .outputRelease
  | .finishConfigure _ => some .finishConfigure
  | .unknownKindRequest _ _ | .shortRequestFrame _ | .replyReadFrame _ | .requestFrameWhileBusy _ | .sensorHeader _
  | .sensorRow _ | .sensorEndMarker | .sensorUnknownItem _ | .clockTick | .progressTransition | .napTimerExpiry
  | .standbyResolve | .sleepWakeComplete | .hardwareReset | .hardwareResetDone | .layerClearing | .engineJobSelect
  | .measure _ | .track | .find _ | .stack _ | .darkAdd _ | .darkFinalization _ | .tileStatusComputation _
  | .renderTile _ => none

/-- A command that the wires or the part can produce. -/
def Instr.wf (i : Instr) : Bool :=
  (match i.frame? with | some f => f.wf | none => true) &&
  (match i with
   | .unknownKindRequest kind _ => (Req.ofCode kind).isNone
   | .shortRequestFrame bytes => isShortFrame bytes
   | .requestFrameWhileBusy len => decide (1 ≤ len)
   | .sensorUnknownItem words => isUnknownItem words
   | _ => true)

end Sys2Proof
end

