-- ==== Sys2Proof/Certificates/Slice0/Obligations.lean ====
section
/-! DEFINITION. The statements for the provers. In each, `s.entered r f` is the part as the owner of request `r` finds it and
`.answered r f st body` the part with the reply in the slot (Sys2Proof/Safety.lean; `RequestEnters` says what they are). -/

open Sys2Proof Sys2Proof.Machine

/-! ## Steps, queue, wire -/

/-- A step executes the command at the front of the queue with the queue's rest; with nothing in the queue the part idles and
the state stays as it is (log 2). -/
def Obligations.StepRunsFront : Prop :=
  (∀ (c : Instr) (rest : List Instr) (s : State), s.pending = c :: rest → step s = exec c { s with pending := rest }) ∧
  ∀ s : State, s.pending = [] → step s = .next s

/-- No command stops the part, and none touches the queue of waiting commands. -/
def Obligations.EveryCommandCompletes : Prop :=
  ∀ (c : Instr) (s : State), ∃ t : State, exec c s = .next t ∧ t.pending = s.pending

/-- Frames and items read into commands: each well-formed request, unknown kind, short frame and sensor item comes back from
the bytes or words that R202 and R205 lay out for it. -/
def Obligations.WireReadsBack : Prop :=
  (∀ (r : Req) (f : ReqFrame), f.wf = true → decodeFrame true (encodeRequest r.code f) = r.toInstr f) ∧
  (∀ (k : Byte) (f : ReqFrame), f.wf = true → Req.ofCode k = none →
    decodeFrame true (encodeRequest k f) = .unknownKindRequest k f) ∧
  (∀ bytes : List Byte, isShortFrame bytes = true → decodeFrame true bytes = .shortRequestFrame bytes) ∧
  (∀ bytes : List Byte, bytes.head? = some 0xA5 → decodeFrame false bytes = .requestFrameWhileBusy bytes.length) ∧
  (∀ bytes : List Byte, bytes.head? ≠ some 0xA5 → ∀ rdy, decodeFrame rdy bytes = .replyReadFrame bytes.length) ∧
  (∀ (i : Instr) (ws : List Half), i.wf = true → encodeItem i = some ws → decodeItem ws = i)

/-! ## The link (chapter 11) -/

/-- What taking a request does before its owner sees it: the old reply is shifted out, the slot is PENDING, the nap timer 0;
in STANDBY the part wakes with a POWER report (RUN, LINK) where the queue has room. The reply then fills the slot. -/
def Obligations.RequestEnters : Prop :=
  ∀ (s : State) (r : Req) (f : ReqFrame) (st : Status) (body : Body),
    let out := s.link.slot.shift (5 + f.payload.length + f.trailing)
    (s.power.state ≠ .standby → s.entered r f =
      { s with link := { s.link with slot := .pending r.code f.tag, shiftOut := out }
               power := { s.power with napTimer := 0 } }) ∧
    (s.power.state = .standby → s.link.reports.length < 32 → s.entered r f =
      { s with link := { s.link with slot := .pending r.code f.tag, shiftOut := out
                                     reports := s.link.reports ++ [⟨s.time.clock, .power .run .link⟩] }
               power := { s.power with state := .run, napTimer := 0 } }) ∧
    (s.power.state = .standby → 32 ≤ s.link.reports.length → s.entered r f =
      { s with link := { s.link with slot := .pending r.code f.tag, shiftOut := out, overflow := true }
               power := { s.power with state := .run, napTimer := 0 } }) ∧
    s.answered r f st body = { s with link := { s.link with slot := .full ⟨r.code + 0x80, f.tag, st, body⟩ } }

/-- Posting a report: it joins the end of the queue with the clock's stamp, or sets REPORT_OVERFLOW at 32. -/
def Obligations.PostingReports : Prop :=
  ∀ (r : Report) (s : State),
    (s.link.reports.length < 32 →
      post r s = { s with link := { s.link with reports := s.link.reports ++ [⟨s.time.clock, r⟩] } }) ∧
    (32 ≤ s.link.reports.length → post r s = { s with link := { s.link with overflow := true } })

/-- While RDY is low every request frame is discarded: LINK_OVERRUN is set and nothing else changes but what was shifted out. -/
def Obligations.BusyLinkDiscards : Prop :=
  ∀ s : State, s.rdy = false →
    (∀ (i : Instr) (f : ReqFrame), i.frame? = some f → exec i s = .next
      { s with link := { s.link with overrun := true
                                     shiftOut := s.link.slot.shift (5 + f.payload.length + f.trailing) } }) ∧
    (∀ bytes : List Byte, exec (.shortRequestFrame bytes) s = .next
      { s with link := { s.link with overrun := true, shiftOut := s.link.slot.shift bytes.length } }) ∧
    (∀ n : Nat, exec (.requestFrameWhileBusy n) s = .next
      { s with link := { s.link with overrun := true, shiftOut := s.link.slot.shift n } })

/-- What the link answers by itself, with the whole next state: in SLEEP, ASLEEP to every request but STATUS.GET and POWER.RUN
and to every unknown kind; awake, BAD_KIND to an unknown kind and BAD_LENGTH to a short frame with the kind and tag it carried,
after the wake from STANDBY; a short frame in SLEEP is answered and the part stays asleep (log 17). -/
def Obligations.LinkAnswersItself : Prop :=
  (∀ k : Byte, k.toNat < 0x80 → replyKind k = k + 0x80) ∧
  (∀ s : State, s.rdy = true → s.power.state = .sleep →
    let answer := fun (kind tag : Byte) (st : Status) (n : Nat) =>
      { s with link := { s.link with slot := .full ⟨kind, tag, st, .empty⟩, shiftOut := s.link.slot.shift n }
               power := { s.power with napTimer := 0 } }
    (∀ (i : Instr) (r : Req) (f : ReqFrame), i.req? = some r → i.frame? = some f → r ≠ .statusGet → r ≠ .powerRun →
      exec i s = .next (answer (r.code + 0x80) f.tag .asleep (5 + f.payload.length + f.trailing))) ∧
    (∀ (k : Byte) (f : ReqFrame), exec (.unknownKindRequest k f) s =
      .next (answer (replyKind k) f.tag .asleep (5 + f.payload.length + f.trailing))) ∧
    ∀ bytes : List Byte, exec (.shortRequestFrame bytes) s =
      .next (answer (replyKind (bytes.getD 1 0)) (bytes.getD 2 0) .badLength bytes.length)) ∧
  ∀ s : State, s.takes →
    let wakes := s.power.state = .standby
    let room := s.link.reports.length < 32
    let answer := fun (kind tag : Byte) (st : Status) (n : Nat) =>
      { s with
        link := { s.link with
          slot := .full ⟨kind, tag, st, .empty⟩, shiftOut := s.link.slot.shift n
          reports := if wakes ∧ room then s.link.reports ++ [⟨s.time.clock, .power .run .link⟩] else s.link.reports
          overflow := if wakes ∧ ¬room then true else s.link.overflow }
        power := { s.power with state := .run, napTimer := 0 } }
    (∀ (k : Byte) (f : ReqFrame), exec (.unknownKindRequest k f) s =
      .next (answer (replyKind k) f.tag .badKind (5 + f.payload.length + f.trailing))) ∧
    ∀ bytes : List Byte, exec (.shortRequestFrame bytes) s =
      .next (answer (replyKind (bytes.getD 1 0)) (bytes.getD 2 0) .badLength bytes.length)

/-- The least payload that holds the fields of a request (R193); a presence mask alone where every field is optional. -/
def Obligations.ShortPayloads : Prop :=
  ∀ (i : Instr) (r : Req) (f : ReqFrame) (n : Nat) (s : State), s.takes → i.req? = some r → i.frame? = some f →
    (r, n) ∈ ([(.reportFetch, 4), (.powerRun, 4), (.powerNap, 4), (.sensorFormat, 8), (.sessionConfigure, 36),
      (.darkBuild, 4), (.darkFree, 1), (.defectList, 8), (.guideAdd, 8), (.guideDrop, 1), (.starsConfigure, 4),
      (.trackConfigure, 4), (.trackMode, 1), (.trackSetRate, 4), (.trackSetPole, 8), (.trackClearLol, 4),
      (.regionSet, 17), (.regionClear, 4), (.stackConfigure, 4), (.tileStatus, 2), (.previewArea, 8),
      (.outputRead, 2), (.finishConfigure, 4)] : List (Req × Nat)) →
    f.payload.length < n → exec i s = .next ((s.entered r f).answered r f .badLength .empty)

/-- A frame that is not a request shifts out the reply of a FULL slot from its first byte, then 0xFF; 0xFF throughout when the
slot holds none; the part's state is untouched. -/
def Obligations.ReadingTheSlot : Prop :=
  ∀ (n : Nat) (s : State), ∃ t : State, exec (.replyReadFrame n) s = .next t ∧
    t = { s with link := { s.link with shiftOut := t.link.shiftOut } } ∧
    (∀ r : Reply, s.link.slot = .full r → t.link.shiftOut =
      (if n ≤ r.bytes.length then r.bytes.take n else r.bytes ++ List.replicate (n - r.bytes.length) 0xFF)) ∧
    ((∀ r : Reply, s.link.slot ≠ .full r) → t.link.shiftOut = List.replicate n 0xFF)

/-- PING answers with the part's identity and capacities and changes nothing; in SLEEP it is refused with ASLEEP (R197). That
every field of its reply takes 4 bytes is the model's choice (log 18). -/
def Obligations.PingAnswers : Prop :=
  (∀ (f : ReqFrame) (s : State), s.rdy = true → s.power.state = .sleep →
    exec (.ping f) s = .next ((s.heard .ping f).answered .ping f .asleep .empty)) ∧
  (∀ (f : ReqFrame) (s : State), s.takes →
    exec (.ping f) s = .next ((s.entered .ping f).answered .ping f .ok .ping)) ∧
  ∀ k tag : Byte, (Reply.mk k tag .ok .ping).bytes = [0x5A, k, tag, 0x00, 52, 0] ++ leBytes 4 0x4180 ++ leBytes 4 1 ++
    leBytes 4 9600 ++ leBytes 4 6400 ++ leBytes 4 3 ++ leBytes 4 32 ++ leBytes 4 16 ++ leBytes 4 4 ++ leBytes 4 4096 ++
    leBytes 4 12 ++ leBytes 4 32 ++ leBytes 4 64 ++ leBytes 4 16

/-- STATUS.GET, in every power state: it reports the part and clears DROPPED, REPORT_OVERFLOW and LINK_OVERRUN, and LOL_LIMIT
when lol_count is at or below lol_threshold. -/
def Obligations.StatusGetReportsAndClears : Prop :=
  ∀ (f : ReqFrame) (s : State), s.rdy = true →
    let u := if s.power.state = .sleep then s.heard .statusGet f else s.entered .statusGet f
    exec (.statusGet f) s = .next
      ({ u with
          port := { u.port with dropped := none }
          link := { u.link with overflow := false, overrun := false }
          tracker := { u.tracker with lolLimit :=
            if u.tracker.lolCount ≤ u.tracker.settings.lolThreshold then false else u.tracker.lolLimit } }.answered
        .statusGet f .ok
        (.status
          { power := u.power.state, pendingStandby := u.power.pendingStandby, session := s.session.state
            tracker := s.tracker.state, engineBusy := s.engine.job.isSome
            freeBuffers := s.staging.countP fun b => b == none, queueLength := u.link.reports.length
            dropped := s.port.dropped, lolLimit := s.tracker.lolLimit, reportOverflow := u.link.overflow
            linkOverrun := s.link.overrun, dropTotal := s.port.dropTotal, eccCorrected := s.eccCorrected }))

/-- REPORT.FETCH removes and returns the oldest reports; 0 and more than 8 are refused. -/
def Obligations.ReportFetchRemovesOldest : Prop :=
  ∀ (f : ReqFrame) (n : Nat) (s : State), s.takes → readOne 4 f.payload = some n →
    let u := s.entered .reportFetch f
    ((n = 0 ∨ 8 < n) → exec (.reportFetch f) s = .next (u.answered .reportFetch f .badValue .empty)) ∧
    (1 ≤ n → n ≤ 8 → exec (.reportFetch f) s = .next
      ({ u with link := { u.link with reports := u.link.reports.drop n } }.answered .reportFetch f .ok
        (.reports (u.link.reports.length - n) (u.link.reports.take n))))

/-- SYSTEM.RESET: what each block's soft reset leaves, whatever job was in flight and however far it had got (log 5): the defect
list grows only by a finalization in flight, the scratch changes only by a DARK_ADD, the layers only as the job in flight changes
them (`layersStopped`). -/
def Obligations.SoftResetLeaves : Prop :=
  ∀ (f : ReqFrame) (p : Progress) (s : State), s.takes →
    ∃ t : State, exec (.systemReset f p) s = .next t ∧
      t.link.slot = .full ⟨0x84, f.tag, .ok, .empty⟩ ∧ t.link.reports = [⟨s.time.clock, .reset .soft⟩] ∧
      t.link.overflow = false ∧ t.link.overrun = false ∧ t.time.clock = s.time.clock ∧
      t.power = ⟨.run, false, s.power.napDelay, 0, false⟩ ∧ t.format = s.format ∧ t.config = s.config ∧
      t.session = ⟨.idle, none, none, 0, 0, 0, 0, 0, none⟩ ∧ t.port = ⟨.skipping, none, 0, 0⟩ ∧
      t.staging = [none, none, none] ∧ t.engine = ⟨none, none, [], {}, {}, {}, false⟩ ∧
      t.calib.build = none ∧ t.calib.buildCounter = s.calib.buildCounter ∧
      (∀ k, (s.calib.slot k).active = true ∨ s.calib.slot k = .free → t.calib.slot k = .free) ∧
      (∀ k d, s.calib.slot k = .damaged d → t.calib.slot k = .damaged d) ∧
      (∀ k d, s.calib.slot k = .ready d → t.calib.slot k = .ready d ∨
        (∃ b, s.engine.job = some (.light b)) ∧ (∃ site w, ⟨site, .dark k w⟩ ∈ p.ecc.uncorrectable) ∧
          t.calib.slot k = .damaged d) ∧
      (s.engine.job ≠ some .finalization → t.calib.defects = s.calib.defects) ∧ (∀ i ∈ s.calib.defects, i ∈ t.calib.defects) ∧
      ((∀ b, s.engine.job ≠ some (.dark b)) → t.calib.scratch = s.calib.scratch) ∧ s.layersStopped p.ecc t ∧
      (∀ k, t.stars.guide k = none) ∧ t.stars.candidates = [] ∧ t.stars.nextAdmission = 0 ∧ t.stars.armed = false ∧
      t.stars.settings = s.stars.settings ∧
      t.tracker =
        { s.tracker with
          a := 0, rem := 0, tLast := 0, lockRun := 0, holdRun := 0, history := [], lolCount := 0, lolLimit := false
          largestI := none, smallestI := none, largestP := none, fewestValid := none
          poleX := s.config.poleX, poleY := s.config.poleY
          rate := if s.tracker.mode = .manual then s.tracker.settings.manualRate else s.config.nominalRate
          state :=
            if s.tracker.mode = .manual then .manual else if s.tracker.mode = .holdover then .holdover else .freerun } ∧
      t.regions = s.regions ∧ t.stacker.totals = ⟨0, 0, 0, 0, 0, 0, 0, 0, 0, 0, 0, none⟩ ∧
      t.stacker.settings = s.stacker.settings ∧ t.finisher.output = .empty ∧ (∀ k, t.finisher.tile k = none) ∧
      t.finisher.renderCounter = s.finisher.renderCounter ∧ t.finisher.pedestal = s.finisher.pedestal ∧
      t.eccCorrected = 0

/-- HARDWARE_RESET leaves every block at its reset value with RDY low, whatever job was in flight and however far it had got (a
free value, log 5), the layers as that job left them (`layersStopped`), and the scratch but for a DARK_ADD as it was;
HARDWARE_RESET_DONE on a part that is not ready posts the RESET report with the clock's stamp and raises RDY and ATTN, and on a part
that is ready it changes nothing (the model's choice, log 3). -/
def Obligations.HardwareResetLeaves : Prop :=
  (∀ s : State, ∃ t : State, exec .hardwareReset s = .next t ∧
    t.rdy = false ∧ t.attn = false ∧ t.link.slot = .empty ∧ t.link.overflow = false ∧ t.link.overrun = false ∧
    t.time.clock = 0 ∧ t.power = ⟨.run, false, 0, 0, false⟩ ∧ t.format = ⟨9600, 6400⟩ ∧
    t.config = ⟨30000, 0, 16000, 72921, 38400, -20000, 16000, 28800000, 15⟩ ∧
    t.session = ⟨.idle, none, none, 0, 0, 0, 0, 0, none⟩ ∧ t.port = ⟨.skipping, none, 0, 0⟩ ∧
    t.staging = [none, none, none] ∧ t.engine = ⟨none, none, [], {}, {}, {}, false⟩ ∧
    (∀ k, t.calib.slot k = .free) ∧ t.calib.build = none ∧ t.calib.buildCounter = 0 ∧ t.calib.defects = [] ∧
    (∀ k, t.stars.guide k = none) ∧ t.stars.candidates = [] ∧ t.stars.nextAdmission = 0 ∧ t.stars.armed = false ∧
    t.stars.settings = ⟨400, 20000, 2000⟩ ∧
    t.tracker = ⟨0, 0, 0, 72921, 38400, -20000, .auto, .freerun, 0, 0, [], 0, false, none, none, none, none,
      ⟨⟨1, 1, 1, 5⟩, ⟨1, 3, 1, 8⟩, 500000, 500, 40000, 120000, 80000, 8, 3, 6, 4, 40, 3, 72921⟩⟩ ∧
    (∀ r ∈ t.regions, r = none) ∧ t.regions.length = 64 ∧
    t.stacker.totals = ⟨0, 0, 0, 0, 0, 0, 0, 0, 0, 0, 0, none⟩ ∧
    t.stacker.settings = ⟨.high, 48, 1600, 1024, 5, 0, false⟩ ∧ t.finisher.output = .empty ∧
    (∀ k, t.finisher.tile k = none) ∧ t.finisher.renderCounter = 0 ∧ t.finisher.pedestal = 256 ∧ t.eccCorrected = 0 ∧
    ((∀ b, s.engine.job ≠ some (.dark b)) → t.calib.scratch = s.calib.scratch) ∧
    s.layersStopped s.resetProgress.ecc t) ∧
  ∀ s : State,
    -- log 3
    (s.link.ready = true → exec .hardwareResetDone s = .next s) ∧
    (s.link.ready = false → s.link.reports.length < 32 → ∃ u : State, exec .hardwareResetDone s = .next u ∧
      u = { s with link := { s.link with
              ready := true, reports := s.link.reports ++ [⟨s.time.clock, .reset .hardware⟩] } } ∧
      u.attn = true ∧ ((∀ kind tag, s.link.slot ≠ .pending kind tag) → u.rdy = true))

/-! ## Time and power (chapters 1 and 10) -/

/-- CLOCK_TICK counts one millisecond in RUN and STANDBY and nothing in SLEEP; with nothing due, the rest of the step is the
signal of a transition (bit n going from 0 to 1) and the nap timer. -/
def Obligations.ClockTickCounts : Prop :=
  ∀ s : State,
    (s.power.state = .sleep → exec .clockTick s = .next s) ∧
    (s.power.state ≠ .sleep → ∃ t : State, exec .clockTick s = .next t ∧ t.time.clock = s.time.clock + 1 ∧
      ∀ v, t.time.progressDue = some v ↔
        v = s.time.clock + 1 ∧ v.toNat % 2 ^ (s.config.progressBit + 1) = 2 ^ s.config.progressBit) ∧
    (s.power.state ≠ .sleep → s.time.progressDue = none → s.standbyDue = false → s.napDue = false →
      exec .clockTick s = .next
        { s with
          time := ⟨s.time.clock + 1,
            if (s.time.clock + 1).toNat % 2 ^ (s.config.progressBit + 1) = 2 ^ s.config.progressBit
            then some (s.time.clock + 1) else none⟩
          power := { s.power with napTimer :=
            if s.power.state = .run ∧ 0 < s.power.napDelay ∧ s.engineIdle = true ∧ s.portIdle = true
            then s.power.napTimer + 1 else s.power.napTimer } })

/-- A clock advance passes a transition exactly when a value that is 2^n modulo 2^(n+1) lies among the values passed over
(R10); a signalled transition posts a PROGRESS report in INTEGRATING and nothing in any other session state. -/
def Obligations.ProgressTransitions : Prop :=
  (∀ n old k : Nat, passesTransition n old k = true ↔ ∃ v, old < v ∧ v ≤ old + k ∧ v % 2 ^ (n + 1) = 2 ^ n) ∧
  ∀ (s : State) (v : Time), s.time.progressDue = some v →
    (s.session.state ≠ .integrating → exec .progressTransition s = .next { s with time := { s.time with progressDue := none } }) ∧
    (∀ r : Time, s.session.state = .integrating → s.session.tRef = some r → s.link.reports.length < 32 →
      exec .progressTransition s = .next
        { s with
          time := { s.time with progressDue := none }
          link := { s.link with reports := s.link.reports ++ [⟨s.time.clock,
            .progress (v - r) s.session.accepted s.session.processed s.session.skyStacked s.session.groundStacked
              s.session.dropped s.tracker.state⟩] } })

/-- POWER.STANDBY enters STANDBY when engine and port are idle, and otherwise sets the pending mark; a pending standby resolves
when they are idle, and the nap timer that reaches its delay enters STANDBY too. -/
def Obligations.StandbyEntered : Prop :=
  (∀ (f : ReqFrame) (s : State), s.takes →
    let u := s.entered .powerStandby f
    (s.engineIdle = true → s.portIdle = true → s.power.pendingStandby = false → exec (.powerStandby f) s = .next
      ({ post (.power .standby .request) u with
          power := { u.power with state := .standby, napTimer := 0 } }.answered .powerStandby f .ok .empty)) ∧
    (s.engineIdle = false ∨ s.portIdle = false → exec (.powerStandby f) s = .next
      ({ u with power := { u.power with pendingStandby := true } }.answered .powerStandby f .started .empty))) ∧
  ∀ s : State, s.power.state = .run → s.engineIdle = true → s.portIdle = true → s.link.reports.length < 32 →
    (s.power.pendingStandby = true → exec .standbyResolve s = .next
      { s with power := { s.power with state := .standby, napTimer := 0, pendingStandby := false }
               link := { s.link with reports := s.link.reports ++ [⟨s.time.clock, .power .standby .request⟩] } }) ∧
    (0 < s.power.napDelay → s.power.napDelay ≤ s.power.napTimer → exec .napTimerExpiry s = .next
      { s with power := { s.power with state := .standby, napTimer := 0 }
               link := { s.link with reports := s.link.reports ++ [⟨s.time.clock, .power .standby .nap⟩] } })

/-- POWER.SLEEP: its three checks in order, and the entry into SLEEP. No pending standby is set on entry (R184): one that is
still set has fallen due, is resolved first and the request wakes the part from it (log 25). -/
def Obligations.SleepRequest : Prop :=
  ∀ (f : ReqFrame) (s : State), s.takes →
    let u := s.entered .powerSleep f
    let busy := s.engineIdle = false ∨ s.portIdle = false
    let wrong := s.session.state = .armed ∨ s.session.state = .integrating ∨ s.session.state = .closing ∨ s.building = true
    let settled := if s.power.pendingStandby then post (.power .run .link) (post (.power .standby .request) u) else u
    (s.session.state = .opening → exec (.powerSleep f) s = .next (u.answered .powerSleep f .wrongState .empty)) ∧
    (s.session.state ≠ .opening → busy → exec (.powerSleep f) s = .next (u.answered .powerSleep f .busy .empty)) ∧
    (s.session.state ≠ .opening → ¬busy → wrong →
      exec (.powerSleep f) s = .next (u.answered .powerSleep f .wrongState .empty)) ∧
    (s.session.state ≠ .opening → ¬busy → ¬wrong →
      ∃ t : State, exec (.powerSleep f) s = .next (t.answered .powerSleep f .ok .empty) ∧
        t = { post (.power .sleep .request) settled with
              power := { u.power with state := .sleep, pendingStandby := false, napTimer := 0 } })

/-- POWER.RUN from SLEEP advances the clock by slept_ms and holds the reply; the wake then posts POWER (RUN, REQUEST) with the
advanced stamp and answers OK. -/
def Obligations.WakeFromSleep : Prop :=
  ∀ (f : ReqFrame) (slept : Nat) (s : State), s.rdy = true → s.power.state = .sleep → s.session.state ≠ .integrating →
    s.link.reports.length < 32 → readPowerRun f.payload = some slept →
    ∃ t : State, exec (.powerRun f) s = .next t ∧
      t = { s with
        time := { s.time with clock := s.time.clock + BitVec.ofNat 32 (if slept ≤ 86400000 then slept else 86400000)
                              progressDue := none }
        power := { s.power with pendingStandby := false, napTimer := 0, waking := true }
        link := { s.link with slot := .pending 0x0A f.tag
                              shiftOut := s.link.slot.shift (5 + f.payload.length + f.trailing) } } ∧
      t.rdy = false ∧
      exec .sleepWakeComplete t = .next
        { t with
          power := { t.power with state := .run, waking := false }
          link := { t.link with slot := .full ⟨0x8A, f.tag, .ok, .empty⟩
                                reports := t.link.reports ++ [⟨t.time.clock, .power .run .request⟩] } }

/-- POWER.RUN in RUN or STANDBY cancels a pending standby and leaves the clock alone. -/
def Obligations.PowerRunAwake : Prop :=
  ∀ (f : ReqFrame) (slept : Nat) (s : State), s.takes → readPowerRun f.payload = some slept →
    let u := s.entered .powerRun f
    exec (.powerRun f) s = .next ({ u with power := { u.power with pendingStandby := false } }.answered .powerRun f .ok .empty)

/-- POWER.NAP in every power state (R183): a delay of 0 is 0, one of 1 to 99 is 100, one above 600,000 is 600,000; the nap
timer becomes 0; a pending standby is not touched and no report is posted beyond that of a wake. -/
def Obligations.NapDelaySet : Prop :=
  ∀ (f : ReqFrame) (delay : Nat) (s : State), s.rdy = true → readOne 4 f.payload = some delay →
    let u := s.entered .powerNap f
    let d := if delay = 0 then 0 else if delay < 100 then 100 else if 600000 < delay then 600000 else delay
    (s.power.state ≠ .sleep → exec (.powerNap f) s = .next
      ({ u with power := { u.power with napDelay := d, napTimer := 0 } }.answered .powerNap f .ok .empty)) ∧
    (s.power.state = .sleep → exec (.powerNap f) s = .next ((s.heard .powerNap f).answered .powerNap f .asleep .empty))

/-! ## Sessions (chapters 1 and 2) -/

/-- SENSOR.FORMAT: its checks in order; a new format empties the darks, the defect list, the regions and the output buffer and
posts a CALIBRATION report with the numbers of what went. -/
def Obligations.FormatRequest : Prop :=
  ∀ (f : ReqFrame) (w h : Nat) (s : State), s.takes → readPair f.payload = some (w, h) →
    let u := s.entered .sensorFormat f
    let wrong := s.session.state ≠ .idle ∨ s.buildActive = true
    let bad := w % 64 ≠ 0 ∨ h % 64 ≠ 0 ∨ w < 1024 ∨ 9600 < w ∨ h < 1024 ∨ 6400 < h
    let darks := s.calib.slots.countP fun d => match d with
      | .ready _ | .damaged _ => true
      | .free | .building | .finalizing => false
    (wrong → exec (.sensorFormat f) s = .next (u.answered .sensorFormat f .wrongState .empty)) ∧
    (¬wrong → bad → exec (.sensorFormat f) s = .next (u.answered .sensorFormat f .badValue .empty)) ∧
    (¬wrong → ¬bad → s.format = ⟨w, h⟩ → exec (.sensorFormat f) s = .next (u.answered .sensorFormat f .ok .empty)) ∧
    (¬wrong → ¬bad → s.format ≠ ⟨w, h⟩ → u.link.reports.length < 32 → ∃ t : State,
      exec (.sensorFormat f) s = .next (t.answered .sensorFormat f .ok .empty) ∧ t.format = ⟨w, h⟩ ∧
      (∀ k, t.calib.slot k = .free) ∧ t.calib.defects = [] ∧ (∀ k, t.regions.getD k none = none) ∧
      t.finisher.output = .empty ∧ (∀ k, t.finisher.tile k = none) ∧
      t.link.reports = u.link.reports ++ [⟨s.time.clock, .calibration w h darks s.calib.defects.length
        (s.regions.countP Option.isSome)⟩] ∧
      t.stars = s.stars ∧ t.tracker = s.tracker ∧ t.staging = s.staging ∧ t.config = s.config ∧ t.session = s.session ∧
      t.port = s.port ∧ t.stacker = s.stacker ∧ t.time = s.time ∧ t.power = u.power ∧ t.calib.build = s.calib.build)

/-- SESSION.CONFIGURE replaces the whole record in IDLE when every checked field is in range, progress_bit clamped (R22); in
SLEEP it is refused with ASLEEP. -/
def Obligations.ConfigureRequest : Prop :=
  (∀ (f : ReqFrame) (s : State), s.rdy = true → s.power.state = .sleep →
    exec (.sessionConfigure f) s = .next ((s.heard .sessionConfigure f).answered .sessionConfigure f .asleep .empty)) ∧
  ∀ (f : ReqFrame) (c : SessionConfig) (s : State), s.takes → readSessionConfig f.payload = some c →
    let u := s.entered .sessionConfigure f
    let good := 1000 ≤ c.exposureMs ∧ c.exposureMs ≤ 600000 ∧ c.readoutOffset ≤ 2000 ∧ 1000 ≤ c.whiteLevel ∧
      c.whiteLevel ≤ 16383 ∧ -74000 ≤ c.nominalRate ∧ c.nominalRate ≤ 74000 ∧ c.nominalRate ≠ 0 ∧
      -4000000 ≤ c.poleX ∧ c.poleX ≤ 4000000 ∧ -4000000 ≤ c.poleY ∧ c.poleY ≤ 4000000 ∧
      1 ≤ c.maxSubframes ∧ c.maxSubframes ≤ 16000 ∧ 1 ≤ c.maxDuration ∧ c.maxDuration ≤ 28800000
    (s.session.state ≠ .idle → exec (.sessionConfigure f) s = .next (u.answered .sessionConfigure f .wrongState .empty)) ∧
    (s.session.state = .idle → ¬good → exec (.sessionConfigure f) s = .next (u.answered .sessionConfigure f .badValue .empty)) ∧
    (s.session.state = .idle → good → exec (.sessionConfigure f) s = .next
      ({ u with config := { c with progressBit :=
          if c.progressBit < 10 then 10 else if 22 < c.progressBit then 22 else c.progressBit } }.answered
        .sessionConfigure f .ok .empty))

/-- SESSION.OPEN: WRONG_STATE outside IDLE, BUSY with a build active or a dark frame staged; otherwise OPENING, with every
block that carries session state at its start and layer clearing as the engine's job. -/
def Obligations.OpenRequest : Prop :=
  ∀ (f : ReqFrame) (s : State), s.takes →
    let u := s.entered .sessionOpen f
    let busy := s.buildActive = true ∨ ∃ b g, b < 3 ∧ s.buffer b = some g ∧ g.kind = .dark
    (s.session.state ≠ .idle → exec (.sessionOpen f) s = .next (u.answered .sessionOpen f .wrongState .empty)) ∧
    (s.staging.length = 3 → s.session.state = .idle → busy →
      exec (.sessionOpen f) s = .next (u.answered .sessionOpen f .busy .empty)) ∧
    (s.staging.length = 3 → s.session.state = .idle → ¬busy → ∃ t : State,
      exec (.sessionOpen f) s = .next (t.answered .sessionOpen f .started .empty) ∧
      t.session = ⟨.opening, none, none, 0, 0, 0, 0, 0, none⟩ ∧
      t.link = (post (.session .opening .request) u).link ∧ t.engine = { s.engine with job := some .clearing } ∧
      (∀ k, t.stars.guide k = none) ∧ t.stars.candidates = [] ∧ t.stars.nextAdmission = 0 ∧ t.stars.armed = false ∧
      t.stars.settings = s.stars.settings ∧
      t.tracker =
        { s.tracker with
          a := 0, rem := 0, tLast := 0, lockRun := 0, holdRun := 0, history := [], lolCount := 0
          largestI := none, smallestI := none, largestP := none, fewestValid := none
          poleX := s.config.poleX, poleY := s.config.poleY
          rate := if s.tracker.mode = .manual then s.tracker.settings.manualRate else s.config.nominalRate
          state :=
            if s.tracker.mode = .manual then .manual else if s.tracker.mode = .holdover then .holdover else .freerun } ∧
      t.stacker = { s.stacker with totals := ⟨0, 0, 0, 0, 0, 0, 0, 0, 0, 0, 0, none⟩ } ∧
      t.finisher.output = .empty ∧ (∀ k, t.finisher.tile k = none) ∧ t.regions = s.regions ∧ t.calib = s.calib ∧
      t.format = s.format ∧ t.config = s.config ∧ t.port = s.port ∧ t.staging = s.staging ∧ t.time = s.time)

/-- Layer clearing completes: every record of both layers is cleared, every tile NORMAL, and the session ARMED. -/
def Obligations.ClearingCompletes : Prop :=
  ∀ s : State, s.engine.job = some .clearing → ∃ t : State, exec .layerClearing s = .next t ∧
    (∀ (l : LayerId) (a : Nat), t.stacker.record l a = ⟨0, 0, false⟩ ∧ t.tileStatusOf l a = .normal) ∧
    t.engine = { s.engine with job := none } ∧ t.session = { s.session with state := .armed } ∧
    t.link = (post (.session .armed .cleared) s).link ∧ t.stacker.totals = s.stacker.totals ∧
    t.stacker.settings = s.stacker.settings ∧ t.time = s.time ∧ t.power = s.power ∧ t.format = s.format ∧
    t.config = s.config ∧ t.port = s.port ∧ t.staging = s.staging ∧ t.calib = s.calib ∧ t.stars = s.stars ∧
    t.tracker = s.tracker ∧ t.regions = s.regions ∧ t.finisher = s.finisher

/-- SESSION.PAUSE, SESSION.RESUME and SESSION.CLOSE. The resume mark is applied at once with no light sub-frame in processing and no
setting or edit held, and is held otherwise. -/
def Obligations.PauseResumeClose : Prop :=
  ∀ (f : ReqFrame) (s : State), s.takes →
    (let u := s.entered .sessionPause f
     (s.session.state ≠ .integrating → exec (.sessionPause f) s = .next (u.answered .sessionPause f .wrongState .empty)) ∧
     (s.session.state = .integrating → exec (.sessionPause f) s = .next
       ((post (.session .paused .request) { u with session := { s.session with state := .paused } }).answered
         .sessionPause f .ok .empty))) ∧
    (let u := s.entered .sessionResume f
     let st : SessionState := if s.session.tRef = none then .armed else .integrating
     let t := post (.session st .request) { u with session := { s.session with state := st } }
     (s.session.state ≠ .paused → exec (.sessionResume f) s = .next (u.answered .sessionResume f .wrongState .empty)) ∧
     (s.session.state = .paused → s.lightInProcessing = true ∨ s.noSettingsHeld = false ∨ s.engine.edits ≠ [] →
       exec (.sessionResume f) s = .next ({ t with engine := { s.engine with resumeMark := true } }.answered .sessionResume f .ok .empty)) ∧
     (s.session.state = .paused → s.lightInProcessing = false → s.noSettingsHeld = true → s.engine.edits = [] →
       exec (.sessionResume f) s = .next
         ((if s.tracker.state = .converge ∨ s.tracker.state = .locked then
             post (.track s.tracker.state .acquire .resume)
               { t with tracker := { s.tracker with lockRun := 0, state := .acquire } }
           else { t with tracker := { s.tracker with lockRun := 0 } }).answered .sessionResume f .ok .empty))) ∧
    (let u := s.entered .sessionClose f
     let may := s.session.state = .armed ∨ s.session.state = .integrating ∨ s.session.state = .paused
     let st : SessionState := if s.outstandingCount = 0 then .closed else .closing
     (¬may → exec (.sessionClose f) s = .next (u.answered .sessionClose f .wrongState .empty)) ∧
     (may → exec (.sessionClose f) s = .next
       ((post (.session st .request) { u with session := { s.session with state := st } }).answered
         .sessionClose f .ok .empty)))

/-- SESSION.DISCARD: refused in IDLE; otherwise the clearing, light sub-frame or render tile in flight stops where it stood (`w`,
log 5), sparing the dark builder; light frames in processing or STAGED are freed and an arriving one is marked ABANDONED, clearing,
light and render jobs end, the edits, the mark and the output go, the session is IDLE with its report, and the held settings are
applied. -/
def Obligations.DiscardRequest : Prop :=
  ∀ (f : ReqFrame) (p : Progress) (s : State), s.takes →
    let u := s.entered .sessionDiscard f
    let K := s.stacker
    let lit := fun b g => s.engine.job = some (.light b) ∧ s.buffer b = some g
    let renders := ∃ k m x y, s.engine.job = some (.renderTile k m x y)
    (s.session.state = .idle →
      exec (.sessionDiscard f p) s = .next (u.answered .sessionDiscard f .wrongState .empty)) ∧
    (s.session.state ≠ .idle → ∃ w : State,
      w = (match s.engine.job with
        | none | some (.dark _) | some .finalization | some (.tileStatus _) => u
        | some .clearing | some (.light _) | some (.renderTile _ _ _ _) => abandonedWork p u) ∧
      -- what the stopped work may have changed, in every case
      w = { u with
        freeSeed := w.freeSeed, eccCorrected := w.eccCorrected, staging := w.staging
        stars := { w.stars with settings := s.stars.settings }, stacker := { w.stacker with settings := K.settings }
        calib := { s.calib with slots := w.calib.slots }
        session := { s.session with groundStacked := w.session.groundStacked }
        link := { u.link with reports := w.link.reports, overflow := w.link.overflow } } ∧
      (∃ more, w.link.reports = u.link.reports ++ more) ∧ w.staging.length = s.staging.length ∧ s.layersStopped p.ecc w ∧
      (∀ b, s.engine.job ≠ some (.light b) → w.buffer b = s.buffer b) ∧
      (∀ k, w.calib.slot k = s.calib.slot k ∨ (∃ b, s.engine.job = some (.light b)) ∧
        (∃ site i, ⟨site, .dark k i⟩ ∈ p.ecc.uncorrectable) ∧
        ∃ d, s.calib.slot k = .ready d ∧ w.calib.slot k = .damaged d) ∧
      ((∀ b, s.engine.job ≠ some (.light b)) → w.stars = s.stars ∧ w.session = s.session) ∧
      -- clearing reads no word
      (s.engine.job = some .clearing → w.eccCorrected = s.eccCorrected ∧ w.link = u.link ∧ w.stacker.totals = K.totals) ∧
      (renders → w.eccCorrected = min (s.eccCorrected + p.ecc.corrected) 65535 ∧
        w.stacker.totals = { K.totals with damagedSky := w.stacker.totals.damagedSky
                                           damagedGround := w.stacker.totals.damagedGround } ∧
        (K.statusDefined = true → ∀ l k, w.tileStatusOf l k = s.tileStatusOf l k ∨
          s.tileStatusOf l k = .normal ∧ w.tileStatusOf l k = .damaged none)) ∧
      (∀ b g, lit b g →
        (∃ g', w.buffer b = some g' ∧ g'.kind = g.kind ∧ g'.stage = g.stage) ∧
        (g.stage ≠ .stack → w.stacker = K ∧ w.session = s.session) ∧
        (g.stage = .measure → w.stars = { s.stars with guides := w.stars.guides } ∧
          ∀ k, w.stars.guide k = s.stars.guide k ∨ w.stars.guide k = none) ∧
        (g.stage = .track → w.eccCorrected = s.eccCorrected ∧ w.stars = { s.stars with guides := w.stars.guides } ∧
          ∀ k, (∀ m ∈ g.measured, m.slot ≠ k) → w.stars.guide k = s.stars.guide k) ∧
        (g.stage = .find → ∀ k h, s.stars.guide k = some h → w.stars.guide k = some h) ∧
        (g.stage = .stack → w.stars = s.stars ∧ w.stacker.totals.skyPasses = K.totals.skyPasses ∧
          w.stacker.totals.skyRejected = K.totals.skyRejected ∧ w.stacker.totals.skyClipped = K.totals.skyClipped ∧
          (w.session = s.session ∧ w.stacker.totals.groundPasses = K.totals.groundPasses ∧
              w.stacker.totals.groundRejected = K.totals.groundRejected ∧
              w.stacker.totals.groundClipped = K.totals.groundClipped ∨
            w.session = { s.session with groundStacked := min (s.session.groundStacked + 1) 4294967295 } ∧
              w.stacker.totals.groundPasses = min (K.totals.groundPasses + 1) 4294967295))) ∧
      exec (.sessionDiscard f p) s = .next
        ((applyRecords s.engine.pendTracker false s.engine.pendStars s.engine.pendStack
          (post (.session .idle .request)
            { w with
              staging := w.staging.map fun x => x.bind fun g =>
                if g.kind = .dark then some g
                else if g.stage = .arriving then some { g with abandoned := true } else none
              session := { w.session with state := .idle, refMark := none }
              finisher := { s.finisher with output := .empty, tiles := .nil }
              engine :=
                { job := match s.engine.job with
                    | none | some .clearing | some (.light _) | some (.renderTile _ _ _ _) => none
                    | some (.dark b) => some (.dark b)
                    | some .finalization => some .finalization
                    | some (.tileStatus k) => some (.tileStatus k)
                  tileRequest := s.engine.tileRequest, edits := [], pendTracker := {}, pendStars := {}, pendStack := {}
                  resumeMark := false } })).answered .sessionDiscard f .ok .empty))

/-- The requests that only report: SESSION.INFO, DARK.LIST, GUIDE.LIST, CANDIDATE.LIST, REGION.LIST, STACK.STATUS answer OK and
change nothing, the model's counter for free values apart; TRACK.STATUS reports the tracker and clears LOL_LIMIT when lol_count is
at or below lol_threshold. With a job in flight, SESSION.INFO, the lists of darks, guides and candidates and STACK.STATUS show the
part at a moment of that job, which is the model's free value (log 38): a slot whole, before or after its damage; the guides taken
so far by MEASURE, TRACK and refill; the candidates between two offers or admissions; the totals and pass counts between the three
points of STACK. -/
def Obligations.ReportingRequests : Prop :=
  (∀ (f : ReqFrame) (s : State), s.takes →
    s.showsNow .sessionInfo f (fun v => .sessionInfo v.session (v.staging.countP fun b =>
      match b with | some g => g.kind == .light && !g.abandoned | none => false)) (exec (.sessionInfo f) s) ∧
    (∃ slots : State → List SlotReply, s.showsNow .darkList f (fun v => .darkList (slots v)) (exec (.darkList f) s) ∧
      ∀ v : State, (slots v).length = 4 ∧ ∀ k, k < 4 →
        let inUse := v.staging.any fun b =>
          match b with
          | some g => g.inProcessing && decide (k ∈ g.darkChoice.slots)
          | none => false
        (v.calib.slot k = .free → (slots v)[k]? = some .free) ∧
        (∀ b, v.calib.build = some b → v.calib.slot k = .building → (slots v)[k]? = some (.building false b)) ∧
        (∀ b, v.calib.build = some b → v.calib.slot k = .finalizing → (slots v)[k]? = some (.building true b)) ∧
        (∀ d, v.calib.slot k = .ready d →
          (slots v)[k]? = some (.held false d.temperature d.exposureMs d.frameCount inUse)) ∧
        (∀ d, v.calib.slot k = .damaged d →
          (slots v)[k]? = some (.held true d.temperature d.exposureMs d.frameCount inUse))) ∧
    s.showsNow .guideList f (fun v => .guides v.stars.guides) (exec (.guideList f) s) ∧
    s.showsNow .candidateList f (fun v => .candidates v.stars.candidates) (exec (.candidateList f) s) ∧
    (∃ entries a b c d, exec (.regionList f) s =
        .next ((s.entered .regionList f).answered .regionList f .ok (.regions entries a b c d)) ∧
      a + b + c + d = s.format.tileCount ∧
      (let tiles := fun (p : TileClass → Bool) => (List.range (s.format.tilesAcross * s.format.tilesDown)).countP fun k =>
        p (tileClassAt s.regions (k % s.format.tilesAcross) (k / s.format.tilesAcross))
       a = tiles (fun x => x == .sky) ∧ b = tiles (fun x => x == .ground) ∧
         c = tiles (fun x => match x with | .horizon _ _ => true | .sky | .ground | .exclude => false) ∧
         d = tiles (fun x => x == .exclude)) ∧
      (entries.map Prod.fst).Pairwise (· < ·) ∧
      ∀ k r, s.regions[k]? = some (some r) ↔ (k, r) ∈ entries) ∧
    s.showsNow .stackStatus f (fun v => .totals v.stacker.totals) (exec (.stackStatus f) s) ∧
    exec (.trackStatus f) s = .next
      ({ s.entered .trackStatus f with tracker := { s.tracker with lolLimit :=
          if s.tracker.lolCount ≤ s.tracker.settings.lolThreshold then false else s.tracker.lolLimit } }.answered
        .trackStatus f .ok (.tracker s.tracker))) ∧
  -- what a moment of the job in flight shows: the part `v` after `units` of it, with the memory errors `e` met by then
  ∀ (units : Nat) (e : Ecc) (s : State),
    let v := glimpse ⟨units, e⟩ s
    let known := fun x : State => x.staging.map (Option.map fun g => (g.kind, g.stage, g.abandoned, g.darkChoice))
    let T := s.stacker.totals
    known v = known s ∧ v.calib.build = s.calib.build ∧
    (∀ k, v.calib.slot k = s.calib.slot k ∨ ∃ d, s.calib.slot k = .ready d ∧ v.calib.slot k = .damaged d) ∧
    T.damagedSky ≤ v.stacker.totals.damagedSky ∧ T.damagedGround ≤ v.stacker.totals.damagedGround ∧
    (s.lightAt .stack = none → v.session = s.session ∧ v.stacker.totals =
      { T with damagedSky := v.stacker.totals.damagedSky, damagedGround := v.stacker.totals.damagedGround }) ∧
    (s.lightAt .measure = none → s.lightAt .track = none → s.lightAt .find = none → v.stars = s.stars) ∧
    -- STACK: the skip count and B_ref, the ground pass, the sky pass, each as it was or as the stage leaves it (R152)
    (∀ b g t, s.lightAt .stack = some (b, g) → exec (.stack e) s = .next t →
      let n := s.format.tileCount * 4096
      let opened := if 0 < units then t.stacker.totals else T
      let ground := if n < units then t.stacker.totals else T
      let sky := if 2 * n + 1 < units then t.stacker.totals else T
      v.stacker.totals =
        { skipNotLocked := opened.skipNotLocked, skipHoldExpired := opened.skipHoldExpired, skipGate := opened.skipGate
          bRef := opened.bRef, groundPasses := ground.groundPasses, groundRejected := ground.groundRejected
          groundClipped := ground.groundClipped, skyPasses := sky.skyPasses, skyRejected := sky.skyRejected
          skyClipped := sky.skyClipped, damagedSky := v.stacker.totals.damagedSky
          damagedGround := v.stacker.totals.damagedGround } ∧
      v.stacker.totals.damagedSky ≤ t.stacker.totals.damagedSky ∧
      v.stacker.totals.damagedGround ≤ t.stacker.totals.damagedGround ∧
      v.session = { s.session with
        groundStacked := if n < units then t.session.groundStacked else s.session.groundStacked
        skyStacked := if 2 * n + 1 < units then t.session.skyStacked else s.session.skyStacked }) ∧
    -- MEASURE: the slots taken so far (R88); with an error, no slot beyond a retirement
    (∀ b g, s.lightAt .measure = some (b, g) →
      v.stars = { s.stars with guides := v.stars.guides } ∧
      (∀ k, v.stars.guide k = s.stars.guide k ∨ v.stars.guide k = none) ∧
      ∀ t, e.uncorrectable = [] → exec (.measure e) s = .next t →
        ∀ k, v.stars.guide k = if k < units then t.stars.guide k else s.stars.guide k) ∧
    -- TRACK: the outcomes applied so far (R89)
    (∀ b g t, s.lightAt .track = some (b, g) → (g.measured.map Measured.slot).Nodup → exec .track s = .next t →
      v.stars = { s.stars with guides := v.stars.guides } ∧
      ∀ k, v.stars.guide k =
        if k ∈ (g.measured.take units).map Measured.slot then t.stars.guide k else s.stars.guide k) ∧
    -- FIND: the offers and admissions made so far (R102)
    ∀ b g, s.lightAt .find = some (b, g) → s.stars.guides.length = 12 → e.uncorrectable = [] →
      let cells := s.format.width / 2 * (s.format.height / 2)
      let scans := g.reference = true ∨ s.stars.armed = true ∨
        s.stars.occupiedCount < s.tracker.settings.refillLevel ∧
          ∀ c ∈ s.stars.candidates, admissionFailure s g.finS g.finC (c.refX, c.refY) ≠ none
      (units = 0 → v.stars = s.stars) ∧
      (scans → 0 < units → units ≤ cells + 1 → v.stars = s.scanned g (units - 1)) ∧
      (scans → cells + 1 < units → ∃ last : State, v.stars = last.stars ∧
        Relation.ReflTransGen (State.admitsNext g.finS g.finC) { s with stars := s.scanned g cells } last) ∧
      (¬scans → ∃ last : State, v.stars = last.stars ∧
        Relation.ReflTransGen (State.admitsNext g.finS g.finC) s last)

/-! ## The sensor port (chapter 3) -/

/-- A header that passes the checks is accepted: the FREE buffer of lowest index is claimed and its record filled. A light one
is counted, is the reference in ARMED, and closes the session at the count limit; a dark one is outstanding for its build. A header
wakes the part from STANDBY, and in CAPTURING it ends the arrival first, as an end marker with MISSING_END would; that a pending
standby which falls due at that end is not resolved before the header is judged is the model's choice (log 37). The fields of the
record that no stage has written yet are left open (log 34). -/
def Obligations.HeaderAccepted : Prop :=
  (∀ (sequence kind width height low high temperature : Half) (b : Nat) (s : State),
    s.power.state = .run → s.portIdle = true → s.staging.length = 3 →
    width.toNat = s.format.width → height.toNat = s.format.height → s.lowestFree = some b →
    let exposure := low.toNat + 65536 * high.toNat
    let tMid := s.time.clock - BitVec.ofNat 32 (exposure / 2) - BitVec.ofNat 32 s.config.readoutOffset
    let header := Instr.sensorHeader [sequence, kind, width, height, low, high, temperature]
    let filled := fun (k : FrameKind) (build : Option (Nat × Nat)) (reference : Bool) (g : SubFrame) =>
      g.stage = .arriving ∧ g.kind = k ∧ g.sequence = sequence.toNat ∧ g.width = width.toNat ∧ g.height = height.toNat ∧
      g.exposureMs = exposure ∧ g.tMid = tMid ∧ g.tH = s.time.clock ∧ g.acceptance = s.port.nextAcceptance ∧
      g.build = build ∧ g.reference = reference ∧ g.abandoned = false ∧ g.stagingError = false ∧
      g.temperature = (if temperature.toInt < -400 then -400 else if 850 < temperature.toInt then 850 else temperature.toInt)
    let claimed := fun (g : SubFrame) =>
      { s with power := { s.power with napTimer := 0 }
               staging := s.staging.set b (some g)
               port := { s.port with state := .capturing ⟨b, 0, none⟩, nextAcceptance := s.port.nextAcceptance + 1 } }
    (kind = 1 → s.buildAccepting = false → exposure = s.config.exposureMs → s.link.reports.length < 32 →
      s.session.accepted + 1 ≤ s.config.maxSubframes → s.config.maxSubframes ≤ 16000 →
      (s.session.state = .armed ∨
        s.session.state = .integrating ∧ ∃ r, s.session.tRef = some r ∧ (tMid - r).toNat ≤ s.config.maxDuration) →
      let first := s.session.state = .armed
      let limit := s.session.accepted + 1 = s.config.maxSubframes
      ∃ g, filled .light none (decide first) g ∧ exec header s = .next
        { claimed g with
          session := { s.session with
            accepted := s.session.accepted + 1, state := if limit then .closing else .integrating
            tRef := if first then some tMid else s.session.tRef, refMark := if first then some b else s.session.refMark }
          link := { s.link with reports := s.link.reports ++
            (if limit then [⟨s.time.clock, .session .closing .countLimit⟩]
             else if first then [⟨s.time.clock, .session .integrating .reference⟩] else []) } }) ∧
    (∀ bd, kind = 2 → s.calib.build = some bd → bd.accepting = true → (∀ x, bd.exposureMs = some x → x = exposure) →
      bd.added + bd.outstanding < 255 → ∃ g, filled .dark (some (bd.slot, bd.number)) false g ∧ exec header s = .next
        { claimed g with
          calib := { s.calib with build := some { bd with
            outstanding := bd.outstanding + 1, exposureMs := some exposure } } })) ∧
  (∀ (words : List Half) (s : State), s.power.state = .standby →
    exec (.sensorHeader words) s = exec (.sensorHeader words)
      (post (.power .run .header) { s with power := { s.power with state := .run, napTimer := 0 } })) ∧
  ∀ (words : List Half) (a : Arrival) (g : SubFrame) (s : State), s.power.state = .run → s.port.state = .capturing a →
    s.buffer a.buffer = some g →
    let broken := PortState.capturing { a with malformation := some (a.malformation.getD .missingEnd) }
    ∃ t : State, t.port.state = .waiting ∧ exec (.sensorHeader words) s = exec (.sensorHeader words) t ∧
      exec .sensorEndMarker { s with power := { s.power with napTimer := 0 }, port := { s.port with state := broken } } =
        .next t

/-- The consumer of a header (R41) and the arrival checks in their order (R42): the reason of a drop is that of the first check
that fails. -/
def Obligations.ArrivalChecksInOrder : Prop :=
  ∀ (h : Header) (tMid : Time) (s : State),
    let c : Consumer :=
      if s.buildAccepting then .build
      else if s.session.state = .armed ∨ s.session.state = .integrating ∨
          (s.session.state = .opening ∨ s.session.state = .paused) ∧ h.kind ≠ .dark then .session
      else .none
    let fails : List (Prop × DropReason) :=
      [(h.proper = false ∨ h.width ≠ s.format.width ∨ h.height ≠ s.format.height, .format),
       (c = .none, .noConsumer),
       (c = .session ∧ h.kind ≠ .light ∨ c = .build ∧ h.kind ≠ .dark, .kind),
       (c = .session ∧ s.session.state = .opening, .clearing),
       (c = .session ∧ s.session.state = .paused, .paused),
       (c = .session ∧ h.exposureMs ≠ s.config.exposureMs ∨
          c = .build ∧ ∃ b x, s.calib.build = some b ∧ b.exposureMs = some x ∧ h.exposureMs ≠ x, .exposure),
       (c = .session ∧ s.session.state = .integrating ∧
            (∃ r, s.session.tRef = some r ∧ s.config.maxDuration < (tMid - r).toNat) ∨
          c = .build ∧ ∃ b, s.calib.build = some b ∧ 255 ≤ b.added + b.outstanding, .limit),
       (s.buffer 0 ≠ none ∧ s.buffer 1 ≠ none ∧ s.buffer 2 ≠ none, .noBuffer)]
    s.consumer h.kind = c ∧
    (∀ (k : Nat) (p : Prop) (r : DropReason), fails[k]? = some (p, r) → p →
        (∀ (j : Nat) (q : Prop) (q' : DropReason), j < k → fails[j]? = some (q, q') → ¬q) →
      s.arrivalCheck h tMid = some r) ∧
    ((∀ (k : Nat) (p : Prop) (r : DropReason), fails[k]? = some (p, r) → ¬p) → s.arrivalCheck h tMid = none)

/-- A header that fails a check is dropped with its reason: the port skips the frame, no buffer is claimed, and the drop
bookkeeping is taken; a LIMIT drop for the session closes it as well. Whether a header of the wrong length counts as a light one is
read from its kind word (log 14), and the port judges headers before HARDWARE_RESET_DONE too (log 20). -/
def Obligations.HeaderDropped : Prop :=
  ∀ (words : List Half) (reason : DropReason) (s : State), s.power.state = .run → s.portIdle = true →
    s.link.reports.length < 31 →
    let h := readHeader words
    s.arrivalCheck h (s.midExposure s.time.clock h.exposureMs) = some reason →
    let t : State :=
      { s with
        power := { s.power with napTimer := 0 }
        port := { s.port with state := .skipping, dropped := some (h.sequence, reason), dropTotal := s.port.dropTotal + 1 }
        link := { s.link with reports := s.link.reports ++ [⟨s.time.clock, .subframeDropped h.sequence reason none⟩] }
        session := { s.session with dropped :=
          if h.kind = .light ∧ s.session.state ≠ .idle ∧ s.session.state ≠ .closed then
            (if s.session.dropped + 1 ≤ 4294967295 then s.session.dropped + 1 else 4294967295)
          else s.session.dropped } }
    (reason ≠ .limit ∨ s.buildAccepting = true → exec (.sensorHeader words) s = .next t) ∧
    (reason = .limit → s.buildAccepting = false →
      let st : SessionState := if s.outstandingCount = 0 then .closed else .closing
      exec (.sensorHeader words) s = .next
        { t with session := { t.session with state := st }
                 link := { t.link with reports := t.link.reports ++ [⟨s.time.clock, .session st .timeLimit⟩] } })

/-- A good row is written into the arrival's buffer and the expected row advances; a bad one, one without a row-index word among
them, records the first malformation and writes nothing; after that rows are read and change nothing. -/
def Obligations.RowCaptured : Prop :=
  ∀ (index : Half) (samples : List Half) (a : Arrival) (g : SubFrame) (s : State), s.power.state ≠ .sleep →
    s.port.state = .capturing a → s.buffer a.buffer = some g →
    (∀ m, a.malformation = some m →
      exec (.sensorRow (index :: samples)) s = .next s ∧ exec (.sensorRow []) s = .next s) ∧
    (a.malformation = none → exec (.sensorRow []) s = .next
      { s with port := { s.port with state := .capturing { a with malformation := some .rowOrder } } }) ∧
    (a.malformation = none → index.toNat = a.expected → a.expected < g.height → samples.length = g.width →
      ∃ t g', exec (.sensorRow (index :: samples)) s = .next t ∧ t.buffer a.buffer = some g' ∧
        t = { s.setBuffer a.buffer (some g') with
          port := { s.port with state := .capturing { a with expected := a.expected + 1 } } } ∧
        g' = { g with samples := g'.samples } ∧
        (∀ x w, samples[x]? = some w → g'.samples.get 0 (a.expected * g.width + x) = w) ∧
        ∀ i, i < a.expected * g.width ∨ (a.expected + 1) * g.width ≤ i → g'.samples.get 0 i = g.samples.get 0 i) ∧
    (a.malformation = none → index.toNat ≠ a.expected ∨ g.height ≤ index.toNat →
      exec (.sensorRow (index :: samples)) s = .next
        { s with port := { s.port with state := .capturing { a with malformation := some .rowOrder } } }) ∧
    (a.malformation = none → index.toNat = a.expected → a.expected < g.height → samples.length ≠ g.width →
      exec (.sensorRow (index :: samples)) s = .next
        { s with port := { s.port with state := .capturing { a with malformation := some .rowLength } } })

/-- An end marker in CAPTURING stages a complete frame; in SKIPPING it makes the port WAITING; rows and end markers in WAITING,
unknown items in every state, and every item in SLEEP are ignored. -/
def Obligations.PortItems : Prop :=
  (∀ (ws : List Half) (s : State),
    exec (.sensorUnknownItem ws) s = .next s ∧
    (s.power.state = .sleep → exec (.sensorHeader ws) s = .next s ∧ exec (.sensorRow ws) s = .next s ∧
      exec .sensorEndMarker s = .next s) ∧
    (s.port.state = .waiting → exec (.sensorRow ws) s = .next s ∧ exec .sensorEndMarker s = .next s) ∧
    (s.port.state = .skipping → exec (.sensorRow ws) s = .next s)) ∧
  ∀ s : State, s.power.state ≠ .sleep →
    (s.port.state = .skipping → exec .sensorEndMarker s = .next { s with port := { s.port with state := .waiting } }) ∧
    (∀ a g, s.port.state = .capturing a → s.buffer a.buffer = some g → a.malformation = none → a.expected = g.height →
      g.abandoned = false → exec .sensorEndMarker s = .next
        { s.setBuffer a.buffer (some { g with stage := .staged }) with
          port := { s.port with state := .waiting }, power := { s.power with napTimer := 0 } })

/-- The end of an arrival that is not a complete frame. A frame with a malformation or too few rows is dropped as MALFORMED: its
buffer is FREE, the drop is recorded, and a light frame's reference role, CLOSING and held edits follow (R28, R32, R58), a dark
frame leaves its build. An ABANDONED arrival is freed without a trace. -/
def Obligations.MalformedDropped : Prop :=
  ∀ (a : Arrival) (g : SubFrame) (s : State), s.power.state ≠ .sleep → s.port.state = .capturing a →
    s.buffer a.buffer = some g → s.staging.length = 3 →
    let w : State := { s with port := { s.port with state := .waiting } }
    let m := some (a.malformation.getD .short)
    (g.abandoned = true → exec .sensorEndMarker s =
      .next (applyHeldIfDue { w with staging := s.staging.set a.buffer none })) ∧
    (g.abandoned = false → a.malformation ≠ none ∨ a.expected ≠ g.height →
      (∃ t : State, exec .sensorEndMarker s = .next t ∧ t.buffer a.buffer = none ∧ (∀ b, b ≠ a.buffer →
          ∀ x, s.buffer b = some x → ∃ y, t.buffer b = some y ∧ y.sequence = x.sequence ∧ y.stage = x.stage) ∧
        t.port = { s.port with state := .waiting, dropped := some (g.sequence, .malformed), dropTotal := s.port.dropTotal + 1 } ∧
        (s.link.reports.length < 32 → ∃ more, t.link.reports = s.link.reports ++
          ⟨s.time.clock, .subframeDropped g.sequence .malformed m⟩ :: more) ∧
        (g.kind = .light → s.session.state ≠ .idle →
          t.session.dropped = min (s.session.dropped + 1) 4294967295 ∧ t.session.accepted = s.session.accepted) ∧
        t.session.processed = s.session.processed ∧ t.stacker.sky = s.stacker.sky ∧ t.stacker.ground = s.stacker.ground ∧
        t.config = s.config ∧ t.format = s.format ∧ t.finisher = s.finisher ∧ t.time = s.time) ∧
      (g.kind = .light → ∃ t, exec .sensorEndMarker s = .next t ∧ w.lightDropped a.buffer g .malformed m t) ∧
      (g.kind = .dark →
        let d := w.dropTaken a.buffer g .malformed m false
        (s.matchesBuild g = false → exec .sensorEndMarker s = .next d) ∧
        ∀ bd, s.matchesBuild g = true → s.calib.build = some bd →
          let left := { bd with outstanding := bd.outstanding - 1 }
          (left.accepting = true ∨ left.outstanding ≠ 0 →
            exec .sensorEndMarker s = .next { d with calib := { s.calib with build := some left } }) ∧
          (left.accepting = false → left.outstanding = 0 → 0 < bd.added → exec .sensorEndMarker s = .next
            { d with calib := { s.calib with build := some left, slots := s.calib.slots.set bd.slot .finalizing } }) ∧
          (left.accepting = false → left.outstanding = 0 → bd.added = 0 → exec .sensorEndMarker s = .next
            (post (.dark bd.slot .empty 0 0)
              { d with calib := { s.calib with build := none, slots := s.calib.slots.set bd.slot .free } }))))

/-! ## Edits and settings (section 3.7, chapters 5 to 8) -/

/-- REGION.SET, REGION.CLEAR, GUIDE.ADD, GUIDE.DROP, TRACK.SET_POLE: the checks of each, a region's rectangle clipped to the grid
(`editOf`), then the edit is applied at once, joined to the queue, or refused with NO_SPACE. -/
def Obligations.EditRequests : Prop :=
  ∀ (i : Instr) (r : Req) (f : ReqFrame) (s : State), s.takes → i.req? = some r → i.frame? = some f →
    r ∈ ([.regionSet, .regionClear, .guideAdd, .guideDrop, .trackSetPole] : List Req) → editReadable i = true →
    let u := s.entered r f
    let free := s.lightInProcessing = false ∧ s.engine.edits = []
    (s.editWrongState r → exec i s = .next (u.answered r f .wrongState .empty)) ∧
    (¬s.editWrongState r → s.editOf i = none → exec i s = .next (u.answered r f .badValue .empty)) ∧
    ∀ e, s.editOf i = some e →
      (free → exec i s = .next ((applyEdit e u).answered r f .ok .empty)) ∧
      (¬free → s.engine.edits.length < 16 → exec i s = .next
        ({ u with engine := { s.engine with edits := s.engine.edits ++ [e] } }.answered r f .ok .empty)) ∧
      (¬free → 16 ≤ s.engine.edits.length → exec i s = .next (u.answered r f .noSpace .empty))

/-- What each edit does when it is applied; a GUIDE.ADD takes the EMPTY slot of lowest index, or is refused with the reason of
the first admission test that fails. -/
def Obligations.EditsTakeEffect : Prop :=
  ∀ s : State,
    (∀ k r, applyEdit (.regionSet k r) s = { s with regions := s.regions.set k (some r) }) ∧
    (∀ k, applyEdit (.regionClear (some k)) s = { s with regions := s.regions.set k none }) ∧
    applyEdit (.regionClear none) s = { s with regions := List.replicate s.regions.length none } ∧
    (∀ x y, applyEdit (.setPole x y) s = { s with tracker := { s.tracker with poleX := x, poleY := y } }) ∧
    (∀ k, s.stars.guide k = none → applyEdit (.guideDrop k) s = s) ∧
    (∀ k g, s.stars.guide k = some g → applyEdit (.guideDrop k) s =
      post (.guide (some k) .retired (some .dropped))
        { s with stars := { s.stars with guides := s.stars.guides.set k none } }) ∧
    ∀ x y : Int,
      let p := s.tracker.rotate (sinScaled s.tracker.a) (cosScaled s.tracker.a) (x, y)
      let dx := p.1 - s.tracker.poleX
      let dy := p.2 - s.tracker.poleY
      let fails : List (Prop × GuideReason) :=
        [((∀ k, k < 12 → s.stars.guide k ≠ none), .full), (dx * dx + dy * dy < 25600 * 25600, .radius),
         (s.windowPlaceable p = false, .window),
         ((∃ k g, k < 12 ∧ s.stars.guide k = some g ∧ (x - g.refX).natAbs ≤ 128 ∧ (y - g.refY).natAbs ≤ 128), .crowded)]
      (∀ (k : Nat) (q : Prop) (r : GuideReason), fails[k]? = some (q, r) → q →
        (∀ (j : Nat) (q' : Prop) (r' : GuideReason), j < k → fails[j]? = some (q', r') → ¬q') →
        applyEdit (.guideAdd x y) s = post (.guide none .refused (some r)) s) ∧
      ((∀ (k : Nat) (q : Prop) (r : GuideReason), fails[k]? = some (q, r) → ¬q) →
        ∃ k, k < 12 ∧ s.stars.guide k = none ∧ (∀ j, j < k → s.stars.guide j ≠ none) ∧
          applyEdit (.guideAdd x y) s =
            (let entry : Guide := ⟨.probation, x, y, 0, none, none, none, 0, 0, none⟩
             post (.guide (some k) .admitted none)
               { s with stars := { s.stars with guides := s.stars.guides.set k (some entry) } }))

/-- TRACK.CONFIGURE, TRACK.MODE, TRACK.SET_RATE, STARS.CONFIGURE, STACK.CONFIGURE: clamped on receipt (`settingsOf`), applied at
once with no light sub-frame in processing and nothing held, otherwise each field written over the held one; and what they
refuse. That max_step and outlier_gate are read as unsigned numbers before they are clamped is the model's choice (log 33). -/
def Obligations.SettingsRequests : Prop :=
  (∀ (i : Instr) (r : Req) (f : ReqFrame) (pt : TrackPending) (ps : StarPending) (pk : StackPending) (s : State),
    s.takes → i.req? = some r → i.frame? = some f → settingsOf i = some (pt, ps, pk) →
    let u := s.entered r f
    (s.lightInProcessing = false → s.noSettingsHeld = true →
      exec i s = .next ((applyRecords pt false ps pk u).answered r f .ok .empty)) ∧
    (s.lightInProcessing = true ∨ s.noSettingsHeld = false → exec i s = .next
      ({ u with engine := { s.engine with pendTracker := pt.overHeld s.engine.pendTracker
                                          pendStars := ps.overHeld s.engine.pendStars
                                          pendStack := pk.overHeld s.engine.pendStack } }.answered r f .ok .empty))) ∧
  (∀ {α : Type} (new held : Option α), lastWrite new held = if new.isSome then new else held) ∧
  ∀ (f : ReqFrame) (s : State), s.takes →
    (∀ code, readOne 1 f.payload = some code → 3 < code →
      exec (.trackMode f) s = .next ((s.entered .trackMode f).answered .trackMode f .badValue .empty)) ∧
    (readOneS f.payload = some 0 →
      exec (.trackSetRate f) s = .next ((s.entered .trackSetRate f).answered .trackSetRate f .badValue .empty)) ∧
    (∀ x code, readStackFields f.payload = some x → x.rejectMode = some code → 2 < code →
      exec (.stackConfigure f) s = .next ((s.entered .stackConfigure f).answered .stackConfigure f .badValue .empty))

/-- What settings do when they are applied, in the order fields, rate, mode, resume mark, star record, stack record: the fields
sent replace the settings', the relations of R119 are restored, a rate becomes the tracker's and manual_rate, a mode moves the
tracker, the mark clears lock_run and sends CONVERGE and LOCKED to ACQUIRE. -/
def Obligations.SettingsTakeEffect : Prop :=
  ∀ s : State,
    let T := s.tracker
    (∀ (pt : TrackPending) (mark : Bool) (ps : StarPending) (pk : StackPending),
      applyRecords pt mark ps pk s =
        applyRecords {} false {} pk (applyRecords {} false ps {} (applyRecords {} mark {} {}
          (applyRecords { mode := pt.mode } false {} {} (applyRecords { rate := pt.rate } false {} {}
            (applyRecords { fields := pt.fields } false {} {} s)))))) ∧
    applyRecords {} false {} {} s = s ∧
    applyRecords {} true {} {} s =
      (if T.state = .converge ∨ T.state = .locked then
        post (.track T.state .acquire .resume) { s with tracker := { T with lockRun := 0, state := .acquire } }
       else { s with tracker := { T with lockRun := 0 } }) ∧
    (∀ r, applyRecords { rate := some r } false {} {} s =
      { s with tracker := { T with rate := r, settings := { T.settings with manualRate := r } } }) ∧
    (∀ p : StarPending, applyRecords {} false p {} s =
      { s with stars := { s.stars with settings :=
          ⟨p.starThreshold.getD s.stars.settings.starThreshold, p.minFlux.getD s.stars.settings.minFlux,
           p.findThreshold.getD s.stars.settings.findThreshold⟩ } }) ∧
    (∀ p : StackPending, let k := s.stacker.settings
      applyRecords {} false {} p s = { s with stacker := { s.stacker with settings :=
        ⟨p.rejectMode.getD k.rejectMode, p.kq.getD k.kq, p.readVariance.getD k.readVariance, p.shot.getD k.shot,
         p.rejectMinCount.getD k.rejectMinCount, p.gateMargin.getD k.gateMargin,
         p.stackWhileAcquiring.getD k.stackWhileAcquiring⟩ } }) ∧
    (∀ m, m = T.mode → applyRecords { mode := some m } false {} {} s = s) ∧
    (∀ m, m ≠ T.mode →
      let t1 := { T with mode := m, lockRun := 0, holdRun := 0 }
      let t2 : Tracker := match m with
        | .freerun => { t1 with state := .freerun, rate := s.config.nominalRate }
        | .holdover => { t1 with state := .holdover, rate := T.heldRate }
        | .manual => { t1 with state := .manual, rate := T.settings.manualRate }
        | .auto => { t1 with state := if T.settings.minGuides ≤ s.stars.activeCount then .acquire else .freerun }
      applyRecords { mode := some m } false {} {} s =
        (if t2.state = T.state then { s with tracker := t2 }
         else post (.track T.state t2.state .mode) { s with tracker := t2 })) ∧
    ∀ x : TrackFields, x ≠ {} → ∃ t : Tracker,
      applyRecords { fields := x } false {} {} s =
        (if t.state = T.state then { s with tracker := t } else post (.track T.state t.state .span) { s with tracker := t }) ∧
      t = { T with settings := t.settings, state := t.state, lolLimit := t.lolLimit } ∧
      t.settings.manualRate = T.settings.manualRate ∧
      t.settings.lockThreshold = x.lockThreshold.getD T.settings.lockThreshold ∧
      t.settings.unlockThreshold =
        max (x.unlockThreshold.getD T.settings.unlockThreshold) (x.lockThreshold.getD T.settings.lockThreshold) ∧
      t.settings.minGuides = x.minGuides.getD T.settings.minGuides ∧
      t.settings.refillLevel = max (x.refillLevel.getD T.settings.refillLevel) (x.minGuides.getD T.settings.minGuides) ∧
      t.settings.acquire = x.acquire.getD T.settings.acquire ∧ t.settings.normal = x.normal.getD T.settings.normal ∧
      t.settings.maxStep = x.maxStep.getD T.settings.maxStep ∧
      t.settings.rateSlopeLimit = x.rateSlopeLimit.getD T.settings.rateSlopeLimit ∧
      t.settings.outlierGate = x.outlierGate.getD T.settings.outlierGate ∧
      t.settings.lockSpan = x.lockSpan.getD T.settings.lockSpan ∧
      t.settings.holdoverHistory = x.holdoverHistory.getD T.settings.holdoverHistory ∧
      t.settings.holdoverLimit = x.holdoverLimit.getD T.settings.holdoverLimit ∧
      t.settings.lolThreshold = x.lolThreshold.getD T.settings.lolThreshold ∧
      t.state = (if (T.state = .converge ∨ T.state = .locked) ∧ 2 * T.lockRun < t.settings.lockSpan then .acquire
        else T.state) ∧
      t.lolLimit = (if t.settings.lolThreshold < T.lolCount then true else T.lolLimit)

/-- STARS.FIND arms the finder in a session; TRACK.CLEAR_LOL writes lol_count, and a count above the threshold sets LOL_LIMIT. -/
def Obligations.FinderAndLolRequests : Prop :=
  ∀ (f : ReqFrame) (s : State), s.takes →
    (let u := s.entered .starsFind f
     let may := s.session.state = .armed ∨ s.session.state = .integrating ∨ s.session.state = .paused ∨
       s.session.state = .closing
     (may → exec (.starsFind f) s =
       .next ({ u with stars := { s.stars with armed := true } }.answered .starsFind f .ok .empty)) ∧
     (¬may → exec (.starsFind f) s = .next (u.answered .starsFind f .wrongState .empty))) ∧
    ∀ n, readOne 4 f.payload = some n →
      let u := s.entered .trackClearLol f
      (n ≤ 15 → exec (.trackClearLol f) s = .next
        ({ u with tracker := { s.tracker with lolCount := n, lolLimit :=
            if s.tracker.settings.lolThreshold < n then true else s.tracker.lolLimit } }.answered
          .trackClearLol f .ok .empty)) ∧
      (15 < n → exec (.trackClearLol f) s = .next (u.answered .trackClearLol f .badValue .empty))

/-! ## Dark library and defect list (chapter 4) -/

/-- DARK.BUILD, its checks in order: WRONG_STATE, BAD_VALUE, BUSY, NO_SPACE; then the slot is BUILDING, with a new build record
and the next build number. -/
def Obligations.DarkBuildRequest : Prop :=
  ∀ (f : ReqFrame) (slot hot : Option Nat) (s : State), s.takes → readDarkBuild f.payload = some (slot, hot) →
    let u := s.entered .darkBuild f
    let outside := s.session.state = .idle ∨ s.session.state = .closed
    let bad := ∃ k, slot = some k ∧ 3 < k
    let takes (k : Nat) := k < 4 ∧ s.calib.slot k = .free ∧
      (slot = some k ∨ slot = none ∧ ∀ j, j < k → s.calib.slot j ≠ .free)
    (¬outside → exec (.darkBuild f) s = .next (u.answered .darkBuild f .wrongState .empty)) ∧
    (outside → bad → exec (.darkBuild f) s = .next (u.answered .darkBuild f .badValue .empty)) ∧
    (outside → ¬bad → s.buildActive = true → exec (.darkBuild f) s = .next (u.answered .darkBuild f .busy .empty)) ∧
    (outside → ¬bad → s.buildActive = false → (∀ k, ¬takes k) →
      exec (.darkBuild f) s = .next (u.answered .darkBuild f .noSpace .empty)) ∧
    (∀ k, outside → ¬bad → s.buildActive = false → takes k →
      exec (.darkBuild f) s = .next
        ({ u with calib := { s.calib with
            slots := s.calib.slots.set k .building
            build := some ⟨k, (s.calib.buildCounter + 1).toNat, true, none, 0, 0, 0, true, min (hot.getD 0) 65535⟩
            buildCounter := s.calib.buildCounter + 1 } }.answered .darkBuild f .ok .empty))

/-- DARK.END, DARK.ABORT and DARK.FREE. DARK.ABORT of a DARK_ADD or a finalization in flight keeps what it had done of `p.units`
pixels (log 5): its MEMORY reports, the sums written, the hot pixels inserted, whose counts the ABORTED report carries. -/
def Obligations.DarkEndAbortFree : Prop :=
  ∀ (f : ReqFrame) (s : State), s.takes →
    (let u := s.entered .darkEnd f
     (s.building = false ∨ s.buildAccepting = false →
       exec (.darkEnd f) s = .next (u.answered .darkEnd f .wrongState .empty)) ∧
     (∀ b, s.calib.build = some b → s.building = true → b.accepting = true → s.calib.slot b.slot = .building →
       (0 < b.outstanding → exec (.darkEnd f) s = .next
         ({ u with calib := { s.calib with build := some { b with accepting := false } } }.answered
           .darkEnd f .started .empty)) ∧
       (b.outstanding = 0 → 0 < b.added → exec (.darkEnd f) s = .next
         ({ u with calib := { s.calib with build := some { b with accepting := false }
                                           slots := s.calib.slots.set b.slot .finalizing } }.answered
           .darkEnd f .started .empty)) ∧
       (b.outstanding = 0 → b.added = 0 → exec (.darkEnd f) s = .next
         ((post (.dark b.slot .empty 0 0) { u with calib := { s.calib with build := none
                                                                           slots := s.calib.slots.set b.slot .free } }).answered
           .darkEnd f .started .empty)))) ∧
    (∀ p : Progress, let u := s.entered .darkAbort f
     ((∀ k, k < 4 → (s.calib.slot k).active = false) →
       exec (.darkAbort f p) s = .next (u.answered .darkAbort f .wrongState .empty)) ∧
     (∀ k, k < 4 → (s.calib.slot k).active = true → (∀ j, j < k → (s.calib.slot j).active = false) →
       (s.engine.job ≠ some .finalization → (∀ b, s.engine.job ≠ some (.dark b)) → exec (.darkAbort f p) s = .next
         ((post (.dark k .aborted 0 0) { u with calib := { s.calib with build := none
                                                                        slots := s.calib.slots.set k .free } }).answered
           .darkAbort f .ok .empty)) ∧
       (s.engine.job = some .finalization ∨ (∃ b, s.engine.job = some (.dark b)) →
         ∃ t : State, exec (.darkAbort f p) s = .next t ∧ t.link.slot = .full ⟨0xA2, f.tag, .ok, .empty⟩ ∧
           t.calib.build = none ∧ t.calib.slots = s.calib.slots.set k .free ∧ t.engine = { s.engine with job := none } ∧
           (let n := min p.units (s.format.width * s.format.height)
            let reported := fun (rs : List Report) (added notAdded : Nat) =>
              t.link = ((post (.dark k .aborted added notAdded) (postAll rs u)).answered .darkAbort f .ok .empty).link
            (∀ b g, s.engine.job = some (.dark b) → s.buffer b = some g →
              t.staging = s.staging.set b none ∧ t.calib.defects = s.calib.defects ∧
              (s.matchesBuild g = false → t.calib.scratch = s.calib.scratch ∧ reported [] 0 0) ∧
              ∀ bd, s.matchesBuild g = true → s.calib.build = some bd → reported (s.addReports bd p.ecc n) 0 0 ∧
                ∀ i, t.calib.scratch.get 0 i =
                  if i < n then BitVec.ofNat 32 (s.sumAfterAdd g bd p.ecc i) else s.calib.scratch.get 0 i) ∧
            ∀ bd, s.engine.job = some .finalization → s.calib.build = some bd →
              t.staging = s.staging ∧ t.calib.scratch = s.calib.scratch ∧
              ∃ notAdded, s.defectsGrown bd p.ecc n t.calib.defects notAdded ∧
                reported (s.finalReports bd p.ecc n) (t.calib.defects.length - s.calib.defects.length) notAdded) ∧
           t.time = s.time ∧ t.format = s.format ∧ t.config = s.config ∧ t.session = s.session ∧ t.port = s.port ∧
           t.stars = s.stars ∧ t.tracker = s.tracker ∧ t.regions = s.regions ∧ t.stacker = s.stacker ∧
           t.finisher = s.finisher))) ∧
    ∀ k, readOne 1 f.payload = some k →
      let u := s.entered .darkFree f
      let busy := (s.calib.slot k).active = true ∨ s.slotInUse k = true
      (3 < k → exec (.darkFree f) s = .next (u.answered .darkFree f .badValue .empty)) ∧
      (k ≤ 3 → busy → exec (.darkFree f) s = .next (u.answered .darkFree f .busy .empty)) ∧
      (k ≤ 3 → ¬busy → exec (.darkFree f) s = .next
        ({ u with calib := { s.calib with slots := s.calib.slots.set k .free } }.answered .darkFree f .ok .empty))

/-- The DEFECT requests: refused in a session or while a build is FINALIZING; otherwise the list becomes what the positions ask,
in ascending order up to 4,096 entries, with the counts of what was done. -/
def Obligations.DefectRequests : Prop :=
  ∀ (f : ReqFrame) (ps : List (Nat × Nat)) (s : State), s.takes → s.calib.defectsLawful →
    readPixelList f.payload = some ps →
    let outside := s.session.state = .idle ∨ s.session.state = .closed
    let inFrame := ∀ p ∈ ps, p.1 < s.format.width ∧ p.2 < s.format.height
    let asked := fun i => ∃ p ∈ ps, i = p.2 * s.format.width + p.1
    let old := s.calib.defects
    (∀ (i : Instr) (r : Req), i.frame? = some f → i.req? = some r →
      r ∈ ([.defectAdd, .defectRemove, .defectClear] : List Req) →
      (¬outside → exec i s = .next ((s.entered r f).answered r f .wrongState .empty)) ∧
      (outside → s.finalizing = true → exec i s = .next ((s.entered r f).answered r f .busy .empty)) ∧
      (outside → s.finalizing = false → r ≠ .defectClear → ¬inFrame →
        exec i s = .next ((s.entered r f).answered r f .badValue .empty))) ∧
    (outside → s.finalizing = false →
      (inFrame → ∃ new added present notAdded,
        exec (.defectAdd f) s = .next ({ s.entered .defectAdd f with calib := { s.calib with defects := new } }.answered
          .defectAdd f .ok (.defectAdd added present notAdded)) ∧
        new.length ≤ 4096 ∧ new.Pairwise (· < ·) ∧ (∀ i, i ∈ new → i ∈ old ∨ asked i) ∧ (∀ i ∈ old, i ∈ new) ∧
        (∀ i, asked i → i ∉ new → new.length = 4096 ∧ ∀ j ∈ new, j ∉ old → j < i) ∧
        added = new.length - old.length ∧ added + present + notAdded = ps.length ∧
        (notAdded = 0 ↔ ∀ i, asked i → i ∈ new)) ∧
      (inFrame → ∃ new removed absent,
        exec (.defectRemove f) s = .next
          ({ s.entered .defectRemove f with calib := { s.calib with defects := new } }.answered
            .defectRemove f .ok (.defectRemove removed absent)) ∧
        (∀ i, i ∈ new ↔ i ∈ old ∧ ¬asked i) ∧ new.Pairwise (· < ·) ∧
        removed = old.length - new.length ∧ removed + absent = ps.length) ∧
      exec (.defectClear f) s = .next ({ s.entered .defectClear f with calib := { s.calib with defects := [] } }.answered
        .defectClear f .ok (.defectClear old.length))) ∧
    ∀ start count, readPair f.payload = some (start, count) →
      let u := s.entered .defectList f
      (¬outside → exec (.defectList f) s = .next (u.answered .defectList f .wrongState .empty)) ∧
      (outside → s.finalizing = true → exec (.defectList f) s = .next (u.answered .defectList f .busy .empty)) ∧
      (outside → s.finalizing = false → exec (.defectList f) s = .next (u.answered .defectList f .ok
        (.defectList old.length start (((old.drop start).take (min count 1024)).map
          fun i => (i % s.format.width, i / s.format.width)))))

/-- DARK_ADD: the frame's raw values are added to the scratch sums (or replace them while the scratch is fresh) and the build
counts it; a staging or scratch word that fails in the add sweep gives full scale, with its MEMORY report; a frame of no build is freed
unread; a staging word that fails in the check sweep drops the frame with reason MEMORY. -/
def Obligations.DarkAddAddsFrame : Prop :=
  ∀ (b : Nat) (g : SubFrame) (e : Ecc) (s : State), s.engine.job = some (.dark b) → s.buffer b = some g →
    (s.matchesBuild g = false → exec (.darkAdd e) s = .next
      { s with staging := s.staging.set b none, engine := { s.engine with job := none } }) ∧
    ∀ bd, s.matchesBuild g = true → s.calib.build = some bd →
      let n := s.format.width * s.format.height
      ((∀ w, w < n / 4 → ⟨.checkSweep, .staging w⟩ ∉ e.uncorrectable) → ∃ (t : State) (b2 : Build),
        exec (.darkAdd e) s = .next t ∧
        t = { postAll (s.addReports bd e n) s with
          eccCorrected := min (s.eccCorrected + e.corrected) 65535, staging := s.staging.set b none
          engine := { s.engine with job := none }, calib := t.calib } ∧
        t.calib = { s.calib with scratch := t.calib.scratch, build := some b2, slots := t.calib.slots } ∧
        b2 = { bd with added := bd.added + 1, outstanding := bd.outstanding - 1
                       tempSum := bd.tempSum + g.temperature, fresh := false } ∧
        t.calib.slots =
          (if b2.accepting = false ∧ b2.outstanding = 0 then s.calib.slots.set bd.slot .finalizing else s.calib.slots) ∧
        ∀ i, t.calib.scratch.get 0 i =
          if i < n then BitVec.ofNat 32 (s.sumAfterAdd g bd e i) else s.calib.scratch.get 0 i) ∧
      ((∃ w, w < n / 4 ∧ ⟨.checkSweep, .staging w⟩ ∈ e.uncorrectable) → g.kind = .dark →
        ∃ t : State, exec (.darkAdd e) s = .next t ∧ t.calib.scratch = s.calib.scratch ∧ t.staging = s.staging.set b none ∧
          t.engine = { s.engine with job := none } ∧ t.port.dropped = some (g.sequence, .memory) ∧
          t.port.dropTotal = s.port.dropTotal + 1 ∧ t.session = s.session ∧
          (∀ x, t.calib.build = some x → x.added = bd.added ∧ x.tempSum = bd.tempSum ∧ x.fresh = bd.fresh))

/-- Dark finalization: the slot is READY with the rounded mean temperature and the plane values floor((8S + N) / 2N), 65,532 where the
scratch word fails, with one MEMORY report; the pixels at or above a hot_level join the defect list. -/
def Obligations.FinalizationMakesDark : Prop :=
  ∀ (bd : Build) (e : Ecc) (s : State), s.engine.job = some .finalization → s.calib.build = some bd → 0 < bd.added →
    bd.slot < s.calib.slots.length →
    let n := s.format.width * s.format.height
    ∃ (t : State) (d : Dark) (notAdded : Nat), exec (.darkFinalization e) s = .next t ∧
      t.calib.slots = s.calib.slots.set bd.slot (.ready d) ∧
      d.temperature = nearestAway bd.tempSum bd.added ∧ d.exposureMs = bd.exposureMs.getD 0 ∧ d.frameCount = bd.added ∧
      (∀ i, i < n → d.plane.get 0 i = BitVec.ofNat 16 (s.finalQ bd e i)) ∧
      t.calib.build = none ∧ t.calib.buildCounter = s.calib.buildCounter ∧ t.calib.scratch = s.calib.scratch ∧
      t.engine = { s.engine with job := none } ∧ s.defectsGrown bd e n t.calib.defects notAdded ∧
      t.link = (post (.dark bd.slot .ready (t.calib.defects.length - s.calib.defects.length) notAdded)
        (postAll (s.finalReports bd e n) s)).link ∧
      t.time = s.time ∧ t.power = s.power ∧ t.format = s.format ∧ t.config = s.config ∧ t.session = s.session ∧
      t.port = s.port ∧ t.staging = s.staging ∧ t.stars = s.stars ∧ t.tracker = s.tracker ∧ t.regions = s.regions ∧
      t.stacker = s.stacker ∧ t.finisher = s.finisher ∧ t.eccCorrected = min (s.eccCorrected + e.corrected) 65535

/-! ## The engine's jobs on a light sub-frame (chapters 3, 5, 6, 8) -/

/-- ENGINE_JOB_SELECT takes the first work of the job order that exists, in RUN with no job held. For a light sub-frame PREPARE
applies the held edits in order, then the held settings, predicts the angle by R14 and chooses the dark by R72. Held items are
applied without a PREPARE when no light sub-frame is in processing and none waits (R58). -/
def Obligations.JobOrder : Prop :=
  (∀ s : State,
    (s.power.state ≠ .run ∨ s.engine.job ≠ none → exec .engineJobSelect s = .next s) ∧
    (s.power.state = .run → s.engine.job = none →
      (∀ b g, s.oldestStaged = some b → s.buffer b = some g → g.kind = .dark → exec .engineJobSelect s = .next
        { s with staging := s.staging.set b (some { g with stage := .darkAdd })
                 engine := { s.engine with job := some (.dark b) } }) ∧
      (∀ b g, s.oldestStaged = some b → s.buffer b = some g → g.kind = .light →
        let taken : State := { s with staging := s.staging.set b (some { g with stage := .prepare })
                                      engine := { s.engine with job := some (.light b), edits := [] } }
        let edited := s.engine.edits.foldl (fun x e => applyEdit e x) taken
        let u := applyRecords s.engine.pendTracker s.engine.resumeMark s.engine.pendStars s.engine.pendStack
          { edited with engine := { edited.engine with
              pendTracker := {}, pendStars := {}, pendStack := {}, resumeMark := false } }
        ∃ g', exec .engineJobSelect s = .next { u with staging := s.staging.set b (some g') } ∧
          (s.noSettingsHeld = true → s.engine.edits = [] → u = taken) ∧
          g' = { g with stage := .measure, aPred := g'.aPred, remPred := g'.remPred, predS := sinScaled g'.aPred
                        predC := cosScaled g'.aPred, noDark := decide (g'.darkChoice = .none), darkChoice := g'.darkChoice } ∧
          s.darkChosen g.temperature g'.darkChoice ∧
          (g.reference = true → g'.aPred = 0 ∧ g'.remPred = 0) ∧
          (g.reference = false →
            let num := u.tracker.rate * max 0 (g.tMid - u.tracker.tLast).toInt + u.tracker.rem
            let a := u.tracker.a + num / 1000
            (-2140000000 ≤ a ∧ a ≤ 2140000000 → g'.aPred = a ∧ (g'.remPred : Int) = num % 1000) ∧
            (a < -2140000000 → g'.aPred = -2140000000 ∧ g'.remPred = 0) ∧
            (2140000000 < a → g'.aPred = 2140000000 ∧ g'.remPred = 0))) ∧
      (s.oldestStaged = none →
        (s.finalizing = true →
          exec .engineJobSelect s = .next { s with engine := { s.engine with job := some .finalization } }) ∧
        (s.finalizing = false → ∀ k, s.engine.tileRequest = some k → exec .engineJobSelect s = .next
          { s with engine := { s.engine with job := some (.tileStatus k), tileRequest := none } }) ∧
        (s.finalizing = false → s.engine.tileRequest = none →
          (∀ k, s.nextRenderTile = some k → exec .engineJobSelect s = .next
            (let job : Job := .renderTile k s.regions s.session.skyStacked s.session.groundStacked
             { s with engine := { s.engine with job := some job } })) ∧
          (s.nextRenderTile = none → exec .engineJobSelect s = .next s)))) ∧
    -- a STAGED buffer is served: with three buffers whose acceptance numbers follow some number, the oldest is found
    (s.staging.length = 3 → (∃ base, ∀ b g, s.buffer b = some g → g.stage = .staged → (g.acceptance - base).msb = false) →
      (s.oldestStaged = none ↔ ∀ b g, s.buffer b = some g → g.stage ≠ .staged)) ∧
    ∀ b, s.oldestStaged = some b → ∃ g, s.buffer b = some g ∧ g.stage = .staged ∧
      ∀ c h, c < s.staging.length → s.buffer c = some h → h.stage = .staged → (h.acceptance - g.acceptance).msb = false) ∧
  ∀ s : State,
    let waits := ∃ b g, s.buffer b = some g ∧ g.kind = .light ∧
      (g.stage ∈ ([.prepare, .measure, .track, .find, .stack] : List Stage) ∨
        g.abandoned = false ∧ (g.stage = .staged ∨ g.stage = .arriving))
    (waits → applyHeldIfDue s = s) ∧
    (¬waits → applyHeldIfDue s =
      (let edited := s.engine.edits.foldl (fun x e => applyEdit e x) { s with engine := { s.engine with edits := [] } }
       applyRecords s.engine.pendTracker s.engine.resumeMark s.engine.pendStars s.engine.pendStack
        { edited with engine := { edited.engine with
            pendTracker := {}, pendStars := {}, pendStack := {}, resumeMark := false } })) ∧
    (s.noSettingsHeld = true → s.engine.edits = [] → applyHeldIfDue s = s)

/-- MEASURE: in slot order, an entry whose predicted position lies within 25,600 cs of the pole or whose window is not placeable is
retired; every other is measured and kept. A dark word that fails in a window makes its four pixels defect pixels of that window and
the slot DAMAGED (R74); a staging word that fails there drops the sub-frame with reason MEMORY, the retirements standing (R59). -/
def Obligations.MeasureTakesGuides : Prop :=
  ∀ (b : Nat) (g : SubFrame) (e : Ecc) (s : State), s.lightAt .measure = some (b, g) → s.stars.guides.length = 12 →
    let at' := fun h : Guide => s.tracker.rotate g.predS g.predC (h.refX, h.refY)
    let cell := fun h : Guide => cellOf (at' h).1 (at' h).2
    let lost := fun h : Guide => s.tracker.poleDistanceSq (at' h) < 25600 * 25600 ∨ s.windowPlaceable (at' h) = false
    let retired := fun k => match s.stars.guide k with
      | some h => if lost h then [Stamped.mk s.time.clock (.guide (some k) .retired (some .geometry))] else []
      | none => []
    let ecc := min (s.eccCorrected + e.corrected) 65535
    -- MEASURE to its end; `bad` are the pixels of slot `at`'s window that a failing dark word makes defect pixels
    let measured := fun (t : State) (k : Nat) (bad : List Nat) =>
      let seen := { s with calib := { s.calib with defects := s.calib.defects ++ bad } }
      ∃ g' : SubFrame, exec (.measure e) s = .next t ∧ t.buffer b = some g' ∧
        g' = { g with stage := .track, measured := g'.measured } ∧ (∀ c, c ≠ b → t.buffer c = s.buffer c) ∧
        (∀ k h, s.stars.guide k = some h → (lost h → t.stars.guide k = none) ∧ (¬lost h → t.stars.guide k = some h)) ∧
        (∀ k, s.stars.guide k = none → t.stars.guide k = none) ∧
        ∃ taken : List Measured, g'.measured = g.measured ++ taken ∧ (taken.map Measured.slot).Pairwise (· < ·) ∧
          (∀ m, m ∈ taken ↔ ∃ h, m.slot < 12 ∧ s.stars.guide m.slot = some h ∧ ¬lost h ∧
            m.wasActive = decide (h.state = .active) ∧
            m.result = (if m.slot = k then seen.windowOf g (cell h) else s.windowOf g (cell h)) ∧
            m.error = m.result.centroid.map (tangentialError s.tracker (at' h))) ∧
          t.stars = { s.stars with guides := t.stars.guides } ∧ t.engine = s.engine ∧
          t.tracker = s.tracker ∧ t.session = s.session ∧ t.port = s.port ∧ t.eccCorrected = ecc ∧ s.sameOutsideSubframe t
    (e.uncorrectable = [] → ∃ t, measured t 12 [] ∧ t.calib = s.calib ∧
      (s.link.reports.length ≤ 20 → t.link.reports = s.link.reports ++ (List.range 12).flatMap retired)) ∧
    ∀ (k w : Nat) (h : Guide), k < 12 → s.stars.guide k = some h → ¬lost h → s.format.legal = true →
      (∃ p ∈ pixelsOfCells (windowCells (cell h).1 (cell h).2), (p.2 * s.format.width + p.1) / 4 = w) →
      let tile := s.format.tileOfIndex (4 * w)
      (∀ slot, e.uncorrectable = [⟨.window k, .dark slot w⟩] → slot ∈ g.darkChoice.slots → ∃ t : State,
        measured t k [4 * w, 4 * w + 1, 4 * w + 2, 4 * w + 3] ∧
        (∀ d, s.calib.slot slot = .ready d →
          t.calib = { s.calib with slots := s.calib.slots.set slot (.damaged d) } ∧
          (s.link.reports.length ≤ 19 → t.link.reports = s.link.reports ++ (List.range 12).flatMap fun j =>
            if j = k then [⟨s.time.clock, .memory .darkLibrary (some slot) tile⟩] else retired j)) ∧
        (∀ d, s.calib.slot slot = .damaged d → t.calib = s.calib ∧
          (s.link.reports.length ≤ 20 → t.link.reports = s.link.reports ++ (List.range 12).flatMap retired))) ∧
      (e.uncorrectable = [⟨.window k, .staging w⟩] → g.kind = .light → g.stagingError = false → ∃ (t v : State) (g' : SubFrame),
        exec (.measure e) s = .next t ∧ { v with engine := { s.engine with job := none } }.lightDropped b g' .memory none t ∧
        g'.sequence = g.sequence ∧ g'.stagingError = true ∧
        v = { s with eccCorrected := ecc, staging := s.staging.set b (some g'), stars := v.stars, link := v.link } ∧
        v.stars = { s.stars with guides := v.stars.guides } ∧
        (∀ j x, s.stars.guide j = some x → v.stars.guide j = if j < k ∧ lost x then none else some x) ∧
        (∀ j, s.stars.guide j = none → v.stars.guide j = none) ∧
        (s.link.reports.length ≤ 19 → v.link = { s.link with reports := s.link.reports ++ (List.range k).flatMap retired ++
          [⟨s.time.clock, .memory .staging none tile⟩] }))

/-- TRACK: the reference sets A to 0; another sub-frame is corrected by the clamped steps of R111 and R112, an AUTO tracker moves by
the table of R114 to R116, with its loss of lock, history, holdover rate and statistics; the sky permission of R120; the guides'
outcomes of R90 and R91; the TRACK report, then the GUIDE reports in slot order. -/
def Obligations.TrackMoves : Prop :=
  ∀ (b : Nat) (g : SubFrame) (s : State), s.lightAt .track = some (b, g) →
    let T := s.tracker
    let S := T.settings
    ∃ (t : State) (g' : SubFrame), exec .track s = .next t ∧ t.buffer b = some g' ∧
      g' = { g with stage := .find, phaseError := g'.phaseError, validCount := g'.validCount, aK := g'.aK
                    finS := sinScaled g'.aK, finC := cosScaled g'.aK, permission := g'.permission } ∧
      (∀ c, c ≠ b → t.buffer c = s.buffer c) ∧
      t.tracker.a = g'.aK ∧ t.tracker.tLast = g.tMid ∧ t.tracker.mode = T.mode ∧ t.tracker.settings = S ∧
      t.tracker.poleX = T.poleX ∧ t.tracker.poleY = T.poleY ∧
      (let errs := handedOver g.measured
       (errs = [] → g'.validCount = 0 ∧ g'.phaseError = none) ∧
       ∀ m0, median (errs.map Prod.snd) = some m0 →
        let fin := errs.filter fun x => decide ((x.2 - m0).natAbs ≤ S.outlierGate)
        g'.validCount = fin.length ∧
          g'.phaseError = if S.minGuides ≤ fin.length then median (fin.map Prod.snd) else none) ∧
      -- the sky permission (R120)
      (g.reference = true → g'.permission = .permitted) ∧
      (g.reference = false → g'.permission =
        match t.tracker.state with
        | .locked | .manual => .permitted
        | .holdover =>
          if S.holdoverLimit = 0 ∨ t.tracker.holdRun ≤ S.holdoverLimit then .permitted else .holdExpired
        | .freerun | .acquire | .converge =>
          if s.stacker.settings.stackWhileAcquiring then .permitted else .notLocked) ∧
      (g.reference = true → g'.aK = 0 ∧ t.session = { s.session with refMark := none } ∧
        t.tracker = { T with a := 0, rem := 0, tLast := g.tMid }) ∧
      (g.reference = false → t.session = s.session ∧ t.tracker.rem = g.remPred ∧
        -- the loss of lock (R117), the history (R116), the statistic of the fewest guides (R121)
        (let loss := T.mode = .auto ∧ T.state = .locked ∧ t.tracker.state ≠ .locked
         let kept := T.mode = .auto ∧ T.state = .locked ∧ t.tracker.state = .locked
         t.tracker.lolCount = (if loss then min (T.lolCount + 1) 15 else T.lolCount) ∧
         t.tracker.lolLimit = (if loss ∧ S.lolThreshold < t.tracker.lolCount then true else T.lolLimit) ∧
         t.tracker.history =
           (if kept then T.history.drop (T.history.length - 15) ++ [t.tracker.rate] else T.history) ∧
         t.tracker.fewestValid =
           (if T.state = .locked ∧ g'.phaseError ≠ none then
              some (match T.fewestValid with | none => g'.validCount | some v => min v g'.validCount)
            else T.fewestValid)) ∧
        ∃ rate : Int,
          (∀ G e, g'.phaseError = some e →
            (T.state = .acquire ∧ G = S.acquire ∨ (T.state = .converge ∨ T.state = .locked) ∧ G = S.normal) →
            let P := clamp (-(S.maxStep : Int)) S.maxStep (nearestAway (e * G.pMult) (2 ^ G.pShift))
            let I := clamp (-(S.rateSlopeLimit : Int)) S.rateSlopeLimit (nearestAway (e * G.iMult) (2 ^ G.iShift))
            g'.aK = clamp (-2140000000) 2140000000 (g.aPred + P) ∧ rate = clamp (-74000) 74000 (T.rate + I) ∧
            t.tracker.largestI = some (match T.largestI with | none => I | some x => max x I) ∧
            t.tracker.smallestI = some (match T.smallestI with | none => I | some x => min x I) ∧
            t.tracker.largestP = some (match T.largestP with | none => P.natAbs | some x => max x P.natAbs)) ∧
          (g'.phaseError = none ∨ T.state = .freerun ∨ T.state = .holdover ∨ T.state = .manual →
            g'.aK = g.aPred ∧ rate = T.rate ∧ t.tracker.largestI = T.largestI ∧ t.tracker.smallestI = T.smallestI ∧
            t.tracker.largestP = T.largestP) ∧
          (T.mode ≠ .auto → t.tracker.state = T.state ∧ t.tracker.rate = rate ∧ t.tracker.lockRun = T.lockRun ∧
            t.tracker.holdRun = T.holdRun + if T.mode = .holdover then 1 else 0) ∧
          (T.mode = .auto → ∀ e, g'.phaseError = some e → T.state ≠ .manual → S.lockSpan ≠ 0 → t.tracker.rate = rate ∧
            let near := e.natAbs < S.lockThreshold
            let far := S.unlockThreshold ≤ e.natAbs
            (t.tracker.state, t.tracker.lockRun) =
              match T.state with
              | .freerun | .holdover => (.acquire, 0)
              | .acquire =>
                if ¬near then (.acquire, 0)
                else if S.lockSpan ≤ 2 * (T.lockRun + 1) then (.converge, T.lockRun + 1) else (.acquire, T.lockRun + 1)
              | .converge =>
                if ¬near then (.acquire, 0)
                else if S.lockSpan ≤ T.lockRun + 1 then (.locked, T.lockRun + 1) else (.converge, T.lockRun + 1)
              | .locked => if far then (.acquire, 0) else (.locked, T.lockRun)
              | .manual => (.manual, T.lockRun)) ∧
          (T.mode = .auto → g'.phaseError ≠ none → t.tracker.holdRun =
            if T.state = .freerun ∨ T.state = .holdover then 0 else T.holdRun) ∧
          (T.mode = .auto → g'.phaseError = none → t.tracker.lockRun = T.lockRun ∧
            ((T.state = .acquire ∨ T.state = .converge ∨ T.state = .locked) →
              t.tracker.state = .holdover ∧ t.tracker.holdRun = 0 ∧ t.tracker.rate = T.heldRate) ∧
            (T.state = .holdover → t.tracker.state = .holdover ∧ t.tracker.holdRun = T.holdRun + 1 ∧
              t.tracker.rate = T.rate) ∧
            (T.state = .freerun → t.tracker.state = .freerun ∧ t.tracker.rate = T.rate ∧
              t.tracker.holdRun = T.holdRun))) ∧
      (∀ k, (∀ m ∈ g.measured, m.slot ≠ k) → t.stars.guide k = s.stars.guide k) ∧
      ((g.measured.map Measured.slot).Nodup →
        (∀ earlier m later h, g.measured = earlier ++ m :: later → s.stars.guide m.slot = some h →
          let final := ∃ m0 x, median ((handedOver g.measured).map Prod.snd) = some m0 ∧
            (m.slot, x) ∈ handedOver g.measured ∧ (x - m0).natAbs ≤ S.outlierGate
          let h1 := { h with background := m.result.background, centroid := m.result.centroid, error := m.error }
          (h.state = .active → ∃ o : GuideOutcome,
            (m.result.verdict = .saturated → o = .saturated) ∧ (m.result.verdict = .notFound → o = .notFound) ∧
            (m.result.verdict = .found → final → o = .found) ∧ (m.result.verdict = .found → ¬final → o = .outlier) ∧
            t.stars.guide m.slot =
              (if o = .found then some { h1 with outcome := some o, missRun := 0 }
               else if 4 ≤ h.missRun + 1 then none else some { h1 with outcome := some o, missRun := h.missRun + 1 })) ∧
          (h.state = .probation → m.result.centroid = none → t.stars.guide m.slot = none) ∧
          -- a first find, near another occupied guide or not; the entries measured earlier stand as they have become (R91)
          (∀ q, h.state = .probation → m.result.centroid = some q → h.probationCount = 0 →
            let r := T.derotate g'.finS g'.finC q
            let crowded := ∃ k x, k < 12 ∧ k ≠ m.slot ∧
              ((∃ n ∈ earlier, n.slot = k) ∧ t.stars.guide k = some x ∨
                (∀ n ∈ earlier, n.slot ≠ k) ∧ s.stars.guide k = some x) ∧
              (r.1 - x.refX).natAbs ≤ 128 ∧ (r.2 - x.refY).natAbs ≤ 128
            (crowded → t.stars.guide m.slot = none) ∧
            (¬crowded → t.stars.guide m.slot =
              some { h1 with refX := r.1, refY := r.2, probationCount := 1, outcome := some .found })) ∧
          (∀ q, h.state = .probation → m.result.centroid = some q → h.probationCount = 1 → t.stars.guide m.slot =
            some { h1 with probationCount := 2, outcome := some .found }) ∧
          (∀ q, h.state = .probation → m.result.centroid = some q → h.probationCount = 2 → t.stars.guide m.slot =
            some { h1 with state := .active, probationCount := 3, missRun := 0, outcome := some .found })) ∧
        -- the reports: the tracker's move with its cause (R108), then one for each guide retired or made ACTIVE (R87, R91)
        (s.link.reports.length + g.measured.length < 32 →
          let cause : TrackCause := match T.state, t.tracker.state with
            | .freerun, _ | .holdover, _ => .guides
            | _, .holdover => .insufficient
            | .acquire, _ => .converging
            | .converge, .acquire => .error
            | .converge, _ => .lock
            | _, _ => .unlock
          let moved := if t.tracker.state = T.state then [] else [Report.track T.state t.tracker.state cause]
          let event := fun m : Measured => match s.stars.guide m.slot, t.stars.guide m.slot with
            | some h, none =>
              [Report.guide (some m.slot) .retired (some (if h.state = .active then .missed
                else if m.result.centroid = none then .probationMiss else .crowded))]
            | some h, some x =>
              if h.state = .probation ∧ x.state = .active then [Report.guide (some m.slot) .active none] else []
            | none, _ => []
          t.link = { s.link with reports := s.link.reports ++
            (moved ++ g.measured.flatMap event).map fun r => ⟨s.time.clock, r⟩ })) ∧
      t.stars = { s.stars with guides := t.stars.guides } ∧ t.engine = s.engine ∧ t.calib = s.calib ∧ t.port = s.port ∧
      t.eccCorrected = s.eccCorrected ∧ s.sameOutsideSubframe t

/-- FIND: the decision, the scan of every cell in raster order with the list's rule for each peak's record, then refill, one
admission after another until none is due; the whole next state with no memory error. A staging word that fails in a cell considered
drops the sub-frame with reason MEMORY: the candidates admitted before it stand and no refill runs. -/
def Obligations.FindRefills : Prop :=
  (∀ (b : Nat) (g : SubFrame) (e : Ecc) (s : State), s.lightAt .find = some (b, g) → s.stars.guides.length = 12 →
    let cells := s.format.width / 2 * (s.format.height / 2)
    let scans := g.reference = true ∨ s.stars.armed = true ∨
      s.stars.occupiedCount < s.tracker.settings.refillLevel ∧
        ∀ c ∈ s.stars.candidates, admissionFailure s g.finS g.finC (c.refX, c.refY) ≠ none
    let ecc := min (s.eccCorrected + e.corrected) 65535
    (e.uncorrectable = [] → ∃ (t seen last : State), exec (.find e) s = .next t ∧
      (scans → seen = { s with eccCorrected := ecc, stars := s.scanned g cells }) ∧
      (¬scans → seen = { s with eccCorrected := ecc }) ∧
      Relation.ReflTransGen (State.admitsNext g.finS g.finC) seen last ∧
      (s.tracker.settings.refillLevel ≤ last.stars.occupiedCount ∨ (∀ k, k < 12 → last.stars.guide k ≠ none) ∨
        ∀ c ∈ last.stars.candidates, admissionFailure last g.finS g.finC (c.refX, c.refY) ≠ none) ∧
      t = { last with staging := s.staging.set b (some { g with stage := .stack }) } ∧
      (scans → t.stars.armed = false) ∧
      (¬scans → t.stars.armed = s.stars.armed ∧ ∀ c ∈ t.stars.candidates, c ∈ s.stars.candidates) ∧
      (∀ k h, s.stars.guide k = some h → t.stars.guide k = some h) ∧
      (∀ k h, s.stars.guide k = none → t.stars.guide k = some h →
        h.state = .probation ∧ h.probationCount = 0 ∧ h.missRun = 0 ∧ h.centroid = none ∧ h.error = none ∧
          h.background = none ∧ h.outcome = none) ∧
      t.stars.settings = s.stars.settings ∧ t.engine = s.engine ∧ t.calib = s.calib ∧ t.tracker = s.tracker ∧
      t.session = s.session ∧ t.port = s.port ∧ t.eccCorrected = ecc ∧ s.sameOutsideSubframe t) ∧
    (∀ i j w : Nat, scans → s.cellInView i j = true → s.cellValue g i j ≠ none → g.kind = .light → g.stagingError = false →
      (∃ dx dy, dx < 2 ∧ dy < 2 ∧ ((2 * j + dy) * s.format.width + (2 * i + dx)) / 4 = w) →
      let n := j * (s.format.width / 2) + i
      e.uncorrectable = [⟨.finder n, .staging w⟩] → ∃ t : State, exec (.find e) s = .next t ∧
        { post (.memory .staging none (2 * j / 64 * (s.format.width / 64) + 2 * i / 64)) s with
            eccCorrected := ecc, stars := s.scanned g n, engine := { s.engine with job := none }
            staging := s.staging.set b (some { g with stagingError := true }) }.lightDropped b g .memory none t)) ∧
  ∀ (c : Candidate) (u : StarUnit),
    let near := fun d : Candidate => (d.refX - c.refX).natAbs ≤ 128 ∧ (d.refY - c.refY).natAbs ≤ 128
    let kept := u.candidates.filter fun d => decide (¬near d)
    ((∃ d ∈ u.candidates, near d ∧ c.flux ≤ d.flux) → offerCandidate c u = u) ∧
    ((∀ d ∈ u.candidates, near d → d.flux < c.flux) →
      (32 ≤ kept.length ∧ (∀ d, kept.getLast? = some d → c.flux ≤ d.flux) →
        offerCandidate c u = { u with candidates := kept }) ∧
      (kept.length < 32 ∨ (∃ d, kept.getLast? = some d ∧ d.flux < c.flux) →
        let room := if kept.length < 32 then kept else kept.dropLast
        offerCandidate c u =
          { u with
            candidates := room.takeWhile (fun d => decide (c.flux ≤ d.flux)) ++
              { c with admission := u.nextAdmission } :: room.dropWhile (fun d => decide (c.flux ≤ d.flux))
            nextAdmission := u.nextAdmission + 1 }))

/-- STACK of a whole sub-frame and what follows it. Every ground-routed pixel is offered to its own record, every sky-routed target
pixel whose source pixel is sky-routed takes that source pixel when the sky decision is to stack, no other record changes; the
passes are counted with their rejected and clipped samples; RETIRE reports SUBFRAME_DONE. A staging word that fails gives nothing to
either layer and the sub-frame is dropped in place of RETIRE (R59); a dark word that fails makes its four pixels defect pixels of the
pass and its slot DAMAGED (R74); a word of either layer that fails makes its tile DAMAGED, which takes nothing from then on, and the
records it holds are left open (R154, R155). -/
def Obligations.StackAddsSubframe : Prop :=
  ∀ (b : Nat) (g : SubFrame) (e : Ecc) (s : State), s.lightAt .stack = some (b, g) → s.format.legal = true →
    g.stagingError = false → g.kind = .light →
    let old := s.stacker.totals
    let bK := backgroundK g.measured
    let bRef := updateBRef bK old.bRef
    let skip := skyDecision g.permission s.stacker.settings.gateMargin bK bRef
    let upTo := fun n : Nat => min n 4294967295
    let sky := if skip = .none then 1 else 0
    -- the part `v` and the record `g'` after the passes, in which `omits` (layer, target, source) leaves offers out and a word
    -- of layer `m`, word `w`, fails where `lost` is `some (m, w)`
    let passed := fun (omits : LayerId → Nat × Nat → Nat × Nat → Bool) (lost : Option (LayerId × Nat))
        (slots : List DarkSlot) (link : Link) (v : State) (g' : SubFrame) =>
      let n := fun m => if lost.map Prod.fst = some m then 1 else 0
      let tally := fun (l : LayerId) outcome => if l = .sky ∧ skip ≠ .none then 0 else s.tally g l (omits l) outcome
      g' = { g with bK := bK, skySkip := skip, stagingError := g'.stagingError
                    skyRejected := tally .sky State.offerRejected, skyClipped := tally .sky State.offerClipped
                    groundRejected := tally .ground State.offerRejected
                    groundClipped := tally .ground State.offerClipped } ∧
      v = { s with
        freeSeed := s.freeSeed + if lost.isSome then 1 else 0
        eccCorrected := min (s.eccCorrected + e.corrected) 65535, staging := s.staging.set b (some g'), link := link
        calib := { s.calib with slots := slots }
        engine := { s.engine with job := none }
        session := { s.session with groundStacked := upTo (s.session.groundStacked + 1)
                                    skyStacked := upTo (s.session.skyStacked + sky) }
        stacker := { s.stacker with
          sky := v.stacker.sky, ground := v.stacker.ground
          skyStatus := v.stacker.skyStatus, groundStatus := v.stacker.groundStatus
          totals :=
            { skyPasses := upTo (old.skyPasses + sky), groundPasses := upTo (old.groundPasses + 1)
              skyRejected := upTo (old.skyRejected + g'.skyRejected), skyClipped := upTo (old.skyClipped + g'.skyClipped)
              groundRejected := upTo (old.groundRejected + g'.groundRejected)
              groundClipped := upTo (old.groundClipped + g'.groundClipped)
              skipNotLocked := old.skipNotLocked + if skip = .notLocked then 1 else 0
              skipHoldExpired := old.skipHoldExpired + if skip = .holdExpired then 1 else 0
              skipGate := old.skipGate + if skip = .gate then 1 else 0
              damagedSky := old.damagedSky + n .sky, damagedGround := old.damagedGround + n .ground, bRef := bRef } } } ∧
      (∀ l px py, px < s.format.width → py < s.format.height →
        (∀ w, lost = some (l, w) → ¬wordHolds w (s.format.recordAddress px py)) →
        v.stacker.record l (s.format.recordAddress px py) =
          match s.sourceOf g l (px, py) with
          | some q =>
            if l = .sky ∧ skip ≠ .none ∨ omits l (px, py) q = true then s.stacker.record l (s.format.recordAddress px py)
            else s.recordAfter g l px py q.1 q.2
          | none => s.stacker.record l (s.format.recordAddress px py)) ∧
      ∀ l a, s.format.width * s.format.height ≤ a → v.stacker.record l a = s.stacker.record l a
    -- RETIRE (R54)
    let retired := fun (v : State) (g' : SubFrame) (t : State) =>
      let elapsed := match s.session.tRef with | some r => g.tMid - r | none => 0
      { post (.subframeDone
          { sequence := g.sequence, tMid := g.tMid, elapsed := elapsed, state := s.tracker.state, validCount := g.validCount
            aK := g.aK, rate := s.tracker.rate, phaseError := g.phaseError, bK := bK, darkChoice := g.darkChoice
            noDark := g.noDark, skySkip := skip, skyRejected := g'.skyRejected, skyClipped := g'.skyClipped
            groundRejected := g'.groundRejected, groundClipped := g'.groundClipped }) v with
        staging := s.staging.set b none
        session := { v.session with processed := upTo (s.session.processed + 1), lastElapsed := some elapsed } }.lightLeft t
    let index := fun q : Nat × Nat => q.2 * s.format.width + q.1
    let both := fun word : MemWord => [MemError.mk .groundPass word, MemError.mk .skyPass word]
    let slots := s.calib.slots
    (e.uncorrectable = [] → ∃ (t v : State) (g' : SubFrame), exec (.stack e) s = .next t ∧
      passed (fun _ _ _ => false) none slots s.link v g' ∧ g'.stagingError = false ∧ retired v g' t ∧
      ∀ l k, v.tileStatusOf l k = s.tileStatusOf l k) ∧
    ∀ l w p q, (l = .sky → skip = .none) → s.passReads g l p q →
      -- a staging word and a dark word that fail in both passes, and are read for target `p` of layer `l`
      (index q / 4 = w →
        (e.uncorrectable = both (.staging w) → ∃ (t v : State) (g' : SubFrame), exec (.stack e) s = .next t ∧
          passed (fun _ _ q => index q / 4 == w) none slots
            (post (.memory .staging none (s.format.tileOfPixel q.1 q.2)) s).link v g' ∧
          g'.stagingError = true ∧ v.lightDropped b g' .memory none t ∧ ∀ l k, v.tileStatusOf l k = s.tileStatusOf l k) ∧
        ∀ k d, e.uncorrectable = both (.dark k w) → k ∈ g.darkChoice.slots →
          s.calib.slot k = .ready d ∨ s.calib.slot k = .damaged d →
          let fresh := s.calib.slot k = .ready d
          ∃ (t v : State) (g' : SubFrame), exec (.stack e) s = .next t ∧
            passed (fun _ _ q => index q / 4 == w) none (if fresh then slots.set k (.damaged d) else slots)
              (if fresh then post (.memory .darkLibrary (some k) (s.format.tileOfPixel q.1 q.2)) s else s).link v g' ∧
            g'.stagingError = false ∧ retired v g' t ∧ ∀ l k, v.tileStatusOf l k = s.tileStatusOf l k) ∧
      -- a layer word that fails in the pass of its layer, first at target `p`
      (e.uncorrectable = [match l with | .sky => ⟨.skyPass, .sky w⟩ | .ground => ⟨.groundPass, .ground w⟩] →
        s.stacker.statusDefined = true → wordHolds w (s.format.recordAddress p.1 p.2) →
        (∀ p' q', s.passReads g l p' q' → wordHolds w (s.format.recordAddress p'.1 p'.2) →
          s.format.visitOf p l ≤ s.format.visitOf p' l) →
        let tile := s.format.tileOfPixel p.1 p.2
        ∃ (t v : State) (g' : SubFrame), exec (.stack e) s = .next t ∧
          passed (fun m p' _ => m == l && s.format.tileOfPixel p'.1 p'.2 == tile &&
              decide (s.format.visitOf p l ≤ s.format.visitOf p' l)) (some (l, w)) slots
            (post (.memory (match l with | .sky => .skyLayer | .ground => .groundLayer) none tile) s).link v g' ∧
          g'.stagingError = false ∧ retired v g' t ∧
          ∀ m k, v.tileStatusOf m k = if m = l ∧ k = tile then .damaged (some g.sequence) else s.tileStatusOf m k)

/-- The rejection test (R145): off never rejects, HIGH rejects outliers above the mean, BOTH every outlier; below
reject_min_count nothing is rejected; an offer is judged by the stack settings in force. -/
def Obligations.RejectionTest : Prop :=
  (∀ (b : Nat) (f : SubFrame) (e : Ecc) (l : LayerId) (a sx sy : Nat) (s : State), s.buffer b = some f →
    e.uncorrectable = [] → s.tileDamaged l (a / 4096) = false → sy * s.format.width + sx ∉ s.calib.defects →
    f.raw (sy * s.format.width + sx) < s.config.whiteLevel →
    let r := s.stacker.record l a
    let raw := f.raw (sy * s.format.width + sx)
    let c := 4 * (raw : Int) - s.calib.darkValue f.darkChoice (sy * s.format.width + sx)
    offer b e l a sx sy s =
      if rejects s.stacker.settings r c then s.setBuffer b (some (f.countRejected l))
      else { s with stacker := s.stacker.setRecord l a { r with sum := r.sum + c, count := r.count + 1 } }) ∧
  ∀ (k : StackSettings) (r : Acc) (c : Int),
    rejects k r c = true ↔
      k.rejectMode ≠ .off ∧ k.rejectMinCount ≤ r.count ∧
      (k.rejectMode = .high → r.sum < c * r.count) ∧
      65536 * (c * r.count - r.sum) ^ 2 >
        (k.kq : Int) ^ 2 * (256 * k.readVariance * (r.count : Int) ^ 2 + k.shot * max r.sum 0 * r.count)

/-- The class of a tile is that of the covering entry of lowest index, SKY where none covers it; a HORIZON tile sends the rows
above its cut to the sky layer and the rest to the ground layer, and the cut height lies between its ends; a pixel outside the frame
goes to neither. -/
def Obligations.TilesRouteSamples : Prop :=
  (∀ (rs : List (Option Region)) (col row : Nat),
    (∀ (k : Nat) (r : Region), rs[k]? = some (some r) → r.covers col row = true →
      (∀ (j : Nat) (x : Region), j < k → rs[j]? = some (some x) → x.covers col row = false) →
      tileClassAt rs col row = r.cls) ∧
    ((∀ (k : Nat) (r : Region), rs[k]? = some (some r) → r.covers col row = false) → tileClassAt rs col row = .sky)) ∧
  ∀ (rs : List (Option Region)) (f : Format) (px py : Int),
    (¬(0 ≤ px ∧ px < f.width ∧ 0 ≤ py ∧ py < f.height) → routePixel rs f px py = .neither) ∧
    (0 ≤ px → px < f.width → 0 ≤ py → py < f.height →
      routePixel rs f px py =
        match tileClassAt rs (px.toNat / 64) (py.toNat / 64) with
        | .sky => .sky
        | .ground => .ground
        | .exclude => .neither
        | .horizon yl yr => if py % 64 < yl + ((yr : Int) - yl) * (px % 64) / 63 then .sky else .ground) ∧
    (∀ yl yr x : Nat, x ≤ 63 → cutHeight yl yr x = yl + ((yr : Int) - yl) * x / 63 ∧
      min (yl : Int) yr ≤ cutHeight yl yr x ∧ cutHeight yl yr x ≤ max (yl : Int) yr)

/-! ## Tile status, rendering and output (chapters 8 and 9) -/

/-- TILE.STATUS waits with RDY low for its computation, which reports, sky then ground, the smallest and largest count of the
tile's records, or the damage; a record that cannot be read makes the tile DAMAGED with no damage sequence (R154). -/
def Obligations.TileStatusReports : Prop :=
  (∀ (f : ReqFrame) (tile : Nat) (s : State), s.takes → readOne 2 f.payload = some tile →
    let u := s.entered .tileStatus f
    let wrong := s.session.state = .idle ∨ s.session.state = .opening
    (wrong → exec (.tileStatus f) s = .next (u.answered .tileStatus f .wrongState .empty)) ∧
    (¬wrong → s.format.tileCount ≤ tile → exec (.tileStatus f) s = .next (u.answered .tileStatus f .badValue .empty)) ∧
    (¬wrong → tile < s.format.tileCount → ∃ t : State, exec (.tileStatus f) s = .next t ∧ t.rdy = false ∧
      t = { u with engine := { s.engine with tileRequest := some tile } } ∧ t.link.slot = .pending 0x4A f.tag)) ∧
  ∀ (tile : Nat) (kind tag : Byte) (e : Ecc) (s : State), s.engine.job = some (.tileStatus tile) →
    s.link.slot = .pending kind tag → kind.toNat < 0x80 → (∀ l k, (s.stacker.record l (tile * 4096 + k)).count ≤ 16000) →
    let unread := fun l : LayerId => s.tileStatusOf l tile = .normal ∧
      ∃ k w, k < 4096 ∧ wordHolds w (tile * 4096 + k) ∧ ⟨.tileStatus, l.word w⟩ ∈ e.uncorrectable
    (s.stacker.statusDefined = true ∨ ∀ l, ¬unread l) →
    ∃ (u v : State) (sky ground : LayerReply), exec (.tileStatusComputation e) s = .next
        { v with eccCorrected := min (s.eccCorrected + e.corrected) 65535, engine := { s.engine with job := none }
                 link := { v.link with slot := .full ⟨kind + 0x80, tag, .ok, .tileStatus tile sky ground⟩ } } ∧
      (unread .sky → s.damages e .sky tile none u) ∧ (¬unread .sky → u = s) ∧
      (unread .ground → u.damages e .ground tile none v) ∧ (¬unread .ground → v = u) ∧
      ∀ l reply, (l, reply) ∈ [(LayerId.sky, sky), (LayerId.ground, ground)] →
        (∀ q, s.tileStatusOf l tile = .damaged q → reply = .damaged q) ∧ (unread l → reply = .damaged none) ∧
        (s.tileStatusOf l tile = .normal → ¬unread l → ∃ lo hi, reply = .normal lo hi ∧
          (∀ k, k < 4096 → lo ≤ (s.stacker.record l (tile * 4096 + k)).count ∧
            (s.stacker.record l (tile * 4096 + k)).count ≤ hi) ∧
          (∃ k, k < 4096 ∧ (s.stacker.record l (tile * 4096 + k)).count = lo) ∧
          ∃ k, k < 4096 ∧ (s.stacker.record l (tile * 4096 + k)).count = hi)

/-- FINISH.START, PREVIEW.AREA, FINISH.CONFIGURE: their checks in order, and the render record they form. -/
def Obligations.RenderRequests : Prop :=
  ∀ (f : ReqFrame) (s : State), s.takes →
    let busy := ∃ r, s.finisher.output = .rendering r
    let across := s.format.tilesAcross
    let number := s.finisher.renderCounter + 1
    let started := fun (kind : RenderKind) (tx ty tw th : Nat) => ({ s.finisher with
      output := .rendering
        ⟨number.toNat, kind, tx, ty, tw, th, s.finisher.pedestal, some (ty * across + tx), 0, 0, 0, 0⟩
      tiles := .nil, renderCounter := number } : Finisher)
    (let u := s.entered .finishStart f
     (s.session.state ≠ .closed → exec (.finishStart f) s = .next (u.answered .finishStart f .wrongState .empty)) ∧
     (s.session.state = .closed → busy → exec (.finishStart f) s = .next (u.answered .finishStart f .busy .empty)) ∧
     (s.session.state = .closed → ¬busy → exec (.finishStart f) s = .next
       ({ u with finisher := started .finish 0 0 across s.format.tilesDown }.answered .finishStart f .started .empty))) ∧
    (∀ x : AreaFields, readArea f.payload = some x →
     let u := s.entered .previewArea f
     let may := s.session.state = .integrating ∨ s.session.state = .paused ∨ s.session.state = .closing ∨
       s.session.state = .closed
     let inGrid := x.tw ≠ 0 ∧ x.th ≠ 0 ∧ x.tx < across ∧ x.ty < s.format.tilesDown
     (¬may → exec (.previewArea f) s = .next (u.answered .previewArea f .wrongState .empty)) ∧
     (may → busy → exec (.previewArea f) s = .next (u.answered .previewArea f .busy .empty)) ∧
     (may → ¬busy → ¬inGrid → exec (.previewArea f) s = .next (u.answered .previewArea f .badValue .empty)) ∧
     (may → ¬busy → inGrid → exec (.previewArea f) s = .next
       (let tw := min x.tw (across - x.tx)
        let th := min x.th (s.format.tilesDown - x.ty)
        { u with finisher := started .preview x.tx x.ty tw th }.answered .previewArea f .started .empty))) ∧
    ∀ n, readOne 4 f.payload = some n → exec (.finishConfigure f) s = .next
      ({ s.entered .finishConfigure f with finisher := { s.finisher with pedestal := if n ≤ 4095 then n else 4095 } }.answered
        .finishConfigure f .ok .empty)

/-- OUTPUT.READ and OUTPUT.RELEASE. -/
def Obligations.OutputRequests : Prop :=
  ∀ (f : ReqFrame) (s : State), s.takes →
    (∀ (n : Nat) (e : Ecc), readOne 2 f.payload = some n →
      let u := s.entered .outputRead f
      let ecc := min (s.eccCorrected + e.corrected) 65535
      let fails := ∃ w, w < 1024 ∧ ⟨.outputRead, .output (n * 1024 + w)⟩ ∈ e.uncorrectable
      (s.format.tileCount ≤ n → exec (.outputRead f e) s = .next (u.answered .outputRead f .badValue .empty)) ∧
      (n < s.format.tileCount → s.finisher.tile n = none → exec (.outputRead f e) s = .next (u.answered .outputRead f .notReady
        (match s.finisher.output with
          | .empty => .notReady none
          | .rendering r => .notReady (some (true, r.number, r.kind))
          | .ready r => .notReady (some (false, r.number, r.kind))))) ∧
      (∀ o, n < s.format.tileCount → s.finisher.tile n = some o →
        (¬fails → exec (.outputRead f e) s = .next ({ u with eccCorrected := ecc }.answered .outputRead f .ok
          (.outputTile n (n % s.format.tilesAcross) (n / s.format.tilesAcross) o))) ∧
        (fails → ∃ t : State, exec (.outputRead f e) s = .next t ∧ t.link.slot = .full ⟨0xD2, f.tag, .dataError, .empty⟩ ∧
          t.finisher.tile n = none ∧ (∀ k, k ≠ n → t.finisher.tile k = s.finisher.tile k) ∧
          t.link.reports = (post (.memory .output none n) u).link.reports ∧ t.finisher.output = s.finisher.output ∧
          t.stacker = s.stacker ∧ t.engine = s.engine ∧ t.session = s.session))) ∧
    ∀ p : Progress,
      ((∀ k m x y, s.engine.job ≠ some (.renderTile k m x y)) → exec (.outputRelease f p) s = .next
        ({ s.entered .outputRelease f with finisher := { s.finisher with output := .empty, tiles := .nil } }.answered
          .outputRelease f .ok .empty)) ∧
      ∃ t : State, exec (.outputRelease f p) s = .next t ∧ t.link.slot = .full ⟨0xD3, f.tag, .ok, .empty⟩ ∧
        t.finisher = { s.finisher with output := .empty, tiles := .nil } ∧
        (∀ k m x y, t.engine.job ≠ some (.renderTile k m x y)) ∧
        s.layersStopped p.ecc t ∧ t.stacker.settings = s.stacker.settings ∧
        t.time = s.time ∧ t.format = s.format ∧ t.config = s.config ∧ t.session = s.session ∧ t.port = s.port ∧
        t.staging = s.staging ∧ t.calib = s.calib ∧ t.stars = s.stars ∧ t.tracker = s.tracker ∧ t.regions = s.regions

/-- A render tile: every pixel is the mean of its record, the pedestal, 65,535 or the hole fill, by R164 to R166; the header's damage
flags and the tallies; the render goes on to the next tile of its area or ends READY with a RENDER report. A layer word that fails
makes its tile DAMAGED: the tile itself then renders as the pedestal in that layer, another tile gives no mean from then on
(R167). The pixels are taken in local raster order (log 36). -/
def Obligations.RenderTileOutput : Prop :=
  ∀ (tile sky ground : Nat) (map : List (Option Region)) (r : Render) (e : Ecc) (s : State),
    s.engine.job = some (.renderTile tile map sky ground) → s.finisher.output = .rendering r →
    tile < s.format.tileCount →
    let at' := fun k => (tile % s.format.tilesAcross * 64 + k % 64, tile / s.format.tilesAcross * 64 + k / 64)
    let taken := fun (l : LayerId) (k : Nat) => (routePixel map s.format ((at' k).1 : Nat) ((at' k).2 : Nat)).layer = some l
    let layers := [LayerId.sky, .ground]
    -- the tile as rendered, with the layers of `u`; its first `before` pixels with those of `s`
    let rendered := fun (u : State) (before : Nat) =>
      let holes := fun clipped => (List.range 4096).countP fun k => u.holeAt map clipped (at' k).1 (at' k).2
      let flag := fun l => u.tileDamaged l tile = true ∧ ∃ k, k < 4096 ∧ taken l k
      ∃ (t : State) (o : OutTile) (r' : Render), exec (.renderTile e) s = .next t ∧ t.finisher.tile tile = some o ∧
        o.samples.length = 4096 ∧
        (∀ k, k < 4096 → o.samples[k]? =
          some (BitVec.ofInt 16 ((if k < before then s else u).outputOf map r.pedestal (at' k).1 (at' k).2))) ∧
        o.kind = r.kind ∧ o.number = r.number ∧ o.skyStacked = sky ∧ o.groundStacked = ground ∧
        (o.damageSky = true ↔ flag .sky) ∧ (o.damageGround = true ↔ flag .ground) ∧
        o.cls = tileClass map s.format tile ∧ o.pedestal = r.pedestal ∧ o.clock = s.time.clock ∧ o.width = s.format.width ∧
        o.height = s.format.height ∧
        (∀ k, k ≠ tile → t.finisher.tile k = s.finisher.tile k) ∧ t.finisher.renderCounter = s.finisher.renderCounter ∧
        t.finisher.pedestal = s.finisher.pedestal ∧
        r' = { r with next := r'.next, tiles := r.tiles + 1, filled := r.filled + holes false
                      clipped := r.clipped + holes true
                      damaged := r.damaged + if o.damageSky || o.damageGround then 1 else 0 } ∧
        r'.next =
          (if tile % s.format.tilesAcross + 1 < r.tx + r.tw then some (tile + 1)
           else if tile / s.format.tilesAcross + 1 < r.ty + r.th then
             some ((tile / s.format.tilesAcross + 1) * s.format.tilesAcross + r.tx)
           else none) ∧
        (r'.next ≠ none → t.finisher.output = .rendering r' ∧ t.link = u.link) ∧
        (r'.next = none → t.finisher.output = .ready r' ∧
          t.link = (post (.render r.kind r.number r'.tiles r'.filled r'.clipped r'.damaged) u).link) ∧
        t = { u with eccCorrected := min (s.eccCorrected + e.corrected) 65535, engine := { s.engine with job := none }
                     finisher := t.finisher, link := t.link }
    (e.uncorrectable = [] → rendered s 0) ∧
    ∀ l ∈ layers, ∀ w, e.uncorrectable = [⟨.renderTile, match l with | .sky => .sky w | .ground => .ground w⟩] →
      s.format.legal = true → s.stacker.statusDefined = true → s.tileDamaged l tile = false →
      (∀ k, k < 4096 → taken l k → wordHolds w (tile * 4096 + k) → ∃ u, s.damages e l tile none u ∧ rendered u 0) ∧
      let reads := fun (k : Nat) (other : Nat × Nat) =>
        s.holeAt map false (at' k).1 (at' k).2 = true ∧ taken l k ∧
        ((other.1 : Int), (other.2 : Int)) ∈ ([((at' k).1, (at' k).2 - 2), ((at' k).1, (at' k).2 + 2),
          ((at' k).1 - 2, (at' k).2), ((at' k).1 + 2, (at' k).2)] : List (Int × Int)) ∧
        (routePixel map s.format (other.1 : Nat) (other.2 : Nat)).layer = some l ∧
        wordHolds w (s.format.recordAddress other.1 other.2)
      ∀ k other, k < 4096 → reads k other → (∀ j x, j < k → ¬reads j x) →
        let k' := s.format.tileOfPixel other.1 other.2
        k' ≠ tile → s.tileDamaged l k' = false → ∃ u, s.damages e l k' none u ∧ rendered u k

/-! ## Invariants of the whole machine -/

/-- Every step keeps: the queues within their capacities, the counts within their limits, a part outside RUN idle, and OPENING
exactly while layer clearing is the job. -/
def Obligations.QueuesAndCountsKept : Prop :=
  KeptByEveryStep State.queuesBounded ∧ KeptByEveryStep State.countsBounded ∧ KeptByEveryStep State.restsIdle ∧
  KeptByEveryStep State.openingLawful

/-- Every step keeps the laws of the blocks: tracker, defect list, candidate list, guide table, dark slots and build record. -/
def Obligations.BlockLawsKept : Prop :=
  KeptByEveryStep (fun s => s.tracker.lawful) ∧ KeptByEveryStep (fun s => s.calib.defectsLawful) ∧
  KeptByEveryStep (fun s => s.stars.candidatesLawful) ∧ KeptByEveryStep (fun s => s.stars.guidesLawful) ∧
  KeptByEveryStep (fun s => s.calib.buildLawful)

/-- Every step keeps the laws of a session together: OPENING exactly while layer clearing is the job; accepted within max_subframes
(R30); no build active in OPENING to CLOSING (R63); one buffer ARRIVING and one in processing at most (R48); no edit and no setting
held in IDLE and CLOSED (R58); the tile status defined once the layers are cleared (R142), and no count of a NORMAL tile's record
above its layer's completed passes (R140, R154). -/
def Obligations.SessionLawsKept : Prop := KeptByEveryStep State.sessionLawful

/-- Every step keeps every partition of the stacked DRAM in canonical form, and in that form equal contents are equal data; and it
keeps the bounds of what the partitions hold: |sum| ≤ 65,532 × count in NORMAL tiles (R140, R154), plane values (R68) and scratch sums (R60). -/
def Obligations.MemoryFormKept : Prop :=
  KeptByEveryStep State.memoryWf ∧
  (∀ (d : Acc) (p q : Plane Acc), p.wf d = true → q.wf d = true → (∀ k, p.get d k = q.get d k) → p = q) ∧
  KeptByEveryStep State.sumsLawful

/-- The part at the release of the reset input meets the invariants. -/
def Obligations.ResetIsLawful : Prop :=
  let s := State.reset
  s.queuesBounded ∧ s.countsBounded ∧ s.restsIdle ∧ s.openingLawful ∧ s.tracker.lawful ∧ s.calib.defectsLawful ∧
  s.stars.candidatesLawful ∧ s.stars.guidesLawful ∧ s.calib.buildLawful ∧ s.memoryWf ∧ s.sessionLawful ∧ s.sumsLawful
end

