-- ==== Sys2Proof/Laws/Plane.lean ====
section
/-! SUPPORT. The laws of planes: reading after writing, every write keeps the canonical form, and the induction principle of
`loop`. -/

namespace Sys2Proof.Plane

/-- The number a list of digits stands for, lowest digit first. -/
def valueOf : List Bool → Nat
  | [] => 0
  | b :: bs => (if b then 1 else 0) + 2 * valueOf bs

theorem valueOf_digitsAux (fuel k : Nat) (h : k ≤ fuel) : valueOf (digitsAux fuel k) = k := by
  induction fuel generalizing k with
  | zero => simp [digitsAux, valueOf]; omega
  | succ n ih =>
    rw [digitsAux]
    split
    · simp [valueOf, *]
    · rw [valueOf, ih (k / 2) (by omega)]
      rcases Nat.mod_two_eq_zero_or_one k with h2 | h2 <;> simp [h2] <;> omega

/-- The digits of an index determine it. -/
theorem digits_inj {j k : Nat} (h : digits j = digits k) : j = k := by
  rw [← valueOf_digitsAux j j le_rfl, ← valueOf_digitsAux k k le_rfl]
  exact congrArg valueOf h

variable {α : Type}

@[simp] theorem find_mk (here : Option α) (even odd : Plane α) (l : List Bool) :
    (mk here even odd).find l = (node here even odd).find l := by
  unfold mk
  split
  · cases l with
    | nil => rfl
    | cons b bs => cases b <;> rfl
  · rfl

/-- Reading a place after storing at a place. -/
theorem find_store (v : Option α) (bs cs : List Bool) (p : Plane α) :
    (p.store v bs).find cs = if bs = cs then v else p.find cs := by
  induction bs generalizing cs p with
  | nil => cases p <;> cases cs <;> simp [store, find]
  | cons b bs ih => cases p <;> cases cs <;> cases b <;> simp [store, find, ih] <;> split <;> simp_all

@[simp] theorem get_nil (d : α) (k : Nat) : (nil : Plane α).get d k = d := by
  simp [get, find]

variable [DecidableEq α]

/-- Reading an index just written gives the record written. -/
@[simp] theorem get_set_self (d : α) (p : Plane α) (k : Nat) (v : α) : (p.set d k v).get d k = v := by
  unfold get set
  rw [find_store]
  split_ifs <;> simp_all

/-- Writing an index leaves every other index as it was. -/
theorem get_set_of_ne (d : α) (p : Plane α) {j k : Nat} (h : j ≠ k) (v : α) : (p.set d k v).get d j = p.get d j := by
  unfold get set
  rw [find_store, if_neg fun hd => h (digits_inj hd.symm)]

/-- A place that may hold a record: its last digit is a one; `may` says so of the empty place. -/
def mayHold : Bool → List Bool → Bool
  | may, [] => may
  | _, b :: bs => mayHold b bs

theorem mayHold_digitsAux (fuel k : Nat) (may : Bool) (h : k ≤ fuel) (hk : k = 0 → may = true) :
    mayHold may (digitsAux fuel k) = true := by
  induction fuel generalizing k may with
  | zero => simp [digitsAux, mayHold]; exact hk (by omega)
  | succ n ih =>
    rw [digitsAux]
    split
    · exact hk ‹_›
    · refine ih (k / 2) _ (by omega) fun h2 => ?_
      have : k = 1 := by omega
      simp [this]

theorem wfAt_mk (d : α) (may : Bool) (here : Option α) (even odd : Plane α)
    (hh : ∀ v, here = some v → may = true ∧ v ≠ d) (he : wfAt d false even = true) (ho : wfAt d true odd = true) :
    wfAt d may (mk here even odd) = true := by
  unfold mk
  split
  · rfl
  · rename_i _ _ _ hne
    cases here with
    | none => cases even <;> cases odd <;> simp_all [wfAt]
    | some v => simp [wfAt, he, ho, hh v rfl]

theorem wfAt_store (d : α) (v : Option α) (hv : ∀ x, v = some x → x ≠ d) (bs : List Bool) (may : Bool) (p : Plane α)
    (hm : mayHold may bs = true) (hp : wfAt d may p = true) : wfAt d may (p.store v bs) = true := by
  induction bs generalizing may p with
  | nil =>
    cases p with
    | nil => exact wfAt_mk _ _ _ _ _ (fun x hx => ⟨hm, hv x hx⟩) rfl rfl
    | node h e o =>
      simp only [wfAt, Bool.and_eq_true] at hp
      exact wfAt_mk _ _ _ _ _ (fun x hx => ⟨hm, hv x hx⟩) hp.1.2 hp.2
  | cons b bs ih =>
    cases p with
    | nil =>
      cases b
      · exact wfAt_mk _ _ _ _ _ (by simp) (ih _ _ hm rfl) rfl
      · exact wfAt_mk _ _ _ _ _ (by simp) rfl (ih _ _ hm rfl)
    | node h e o =>
      simp only [wfAt, Bool.and_eq_true] at hp
      have hh : ∀ x, h = some x → may = true ∧ x ≠ d := by
        rintro x rfl
        simpa using hp.1.1.1
      cases b
      · exact wfAt_mk _ _ _ _ _ hh (ih _ _ hm hp.1.2) hp.2
      · exact wfAt_mk _ _ _ _ _ hh hp.1.2 (ih _ _ hm hp.2)

/-- Every write keeps the canonical form. -/
theorem wf_set (d : α) (p : Plane α) (k : Nat) (v : α) (h : p.wf d = true) : (p.set d k v).wf d = true := by
  refine wfAt_store d _ (fun x hx => ?_) _ _ _ (mayHold_digitsAux k k true le_rfl fun _ => rfl) h
  split_ifs at hx <;> simp_all

theorem wf_nil (d : α) : (nil : Plane α).wf d = true := rfl

end Sys2Proof.Plane

namespace Sys2Proof.Machine

/-- What holds before a loop and is kept by each turn holds after it. -/
theorem loop_induct {σ : Type} (P : σ → Prop) (f : Nat → σ → σ) (h : ∀ i s, P s → P (f i s)) (n i : Nat) (s : σ) (hs : P s) :
    P (loop f n i s) := by
  induction n generalizing i s with
  | zero => exact hs
  | succ n ih => exact ih (i + 1) (f i s) (h i s hs)

end Sys2Proof.Machine
end

