-- ==== Sys2Proof/Laws/State.lean ====
section
/-! SUPPORT. One lemma for each field of `State` and each named update: the update leaves the field as it was, or what it
becomes. All true by `rfl`. -/

namespace Sys2Proof.Machine

variable (s : State)

/-! ### setBuffer -/

@[simp] theorem State.setBuffer_pending (b : Nat) (f : Option SubFrame) : (s.setBuffer b f).pending = s.pending := rfl
@[simp] theorem State.setBuffer_freeSeed (b : Nat) (f : Option SubFrame) : (s.setBuffer b f).freeSeed = s.freeSeed := rfl
@[simp] theorem State.setBuffer_time (b : Nat) (f : Option SubFrame) : (s.setBuffer b f).time = s.time := rfl
@[simp] theorem State.setBuffer_power (b : Nat) (f : Option SubFrame) : (s.setBuffer b f).power = s.power := rfl
@[simp] theorem State.setBuffer_link (b : Nat) (f : Option SubFrame) : (s.setBuffer b f).link = s.link := rfl
@[simp] theorem State.setBuffer_eccCorrected (b : Nat) (f : Option SubFrame) : (s.setBuffer b f).eccCorrected = s.eccCorrected := rfl
@[simp] theorem State.setBuffer_format (b : Nat) (f : Option SubFrame) : (s.setBuffer b f).format = s.format := rfl
@[simp] theorem State.setBuffer_config (b : Nat) (f : Option SubFrame) : (s.setBuffer b f).config = s.config := rfl
@[simp] theorem State.setBuffer_session (b : Nat) (f : Option SubFrame) : (s.setBuffer b f).session = s.session := rfl
@[simp] theorem State.setBuffer_port (b : Nat) (f : Option SubFrame) : (s.setBuffer b f).port = s.port := rfl
@[simp] theorem State.setBuffer_engine (b : Nat) (f : Option SubFrame) : (s.setBuffer b f).engine = s.engine := rfl
@[simp] theorem State.setBuffer_calib (b : Nat) (f : Option SubFrame) : (s.setBuffer b f).calib = s.calib := rfl
@[simp] theorem State.setBuffer_stars (b : Nat) (f : Option SubFrame) : (s.setBuffer b f).stars = s.stars := rfl
@[simp] theorem State.setBuffer_tracker (b : Nat) (f : Option SubFrame) : (s.setBuffer b f).tracker = s.tracker := rfl
@[simp] theorem State.setBuffer_regions (b : Nat) (f : Option SubFrame) : (s.setBuffer b f).regions = s.regions := rfl
@[simp] theorem State.setBuffer_stacker (b : Nat) (f : Option SubFrame) : (s.setBuffer b f).stacker = s.stacker := rfl
@[simp] theorem State.setBuffer_finisher (b : Nat) (f : Option SubFrame) : (s.setBuffer b f).finisher = s.finisher := rfl
@[simp] theorem State.setBuffer_staging (b : Nat) (f : Option SubFrame) :
    (s.setBuffer b f).staging = s.staging.set b f := rfl

/-! ### setGuide -/

@[simp] theorem State.setGuide_pending (k : Nat) (g : Option Guide) : (s.setGuide k g).pending = s.pending := rfl
@[simp] theorem State.setGuide_freeSeed (k : Nat) (g : Option Guide) : (s.setGuide k g).freeSeed = s.freeSeed := rfl
@[simp] theorem State.setGuide_time (k : Nat) (g : Option Guide) : (s.setGuide k g).time = s.time := rfl
@[simp] theorem State.setGuide_power (k : Nat) (g : Option Guide) : (s.setGuide k g).power = s.power := rfl
@[simp] theorem State.setGuide_link (k : Nat) (g : Option Guide) : (s.setGuide k g).link = s.link := rfl
@[simp] theorem State.setGuide_eccCorrected (k : Nat) (g : Option Guide) : (s.setGuide k g).eccCorrected = s.eccCorrected := rfl
@[simp] theorem State.setGuide_format (k : Nat) (g : Option Guide) : (s.setGuide k g).format = s.format := rfl
@[simp] theorem State.setGuide_config (k : Nat) (g : Option Guide) : (s.setGuide k g).config = s.config := rfl
@[simp] theorem State.setGuide_session (k : Nat) (g : Option Guide) : (s.setGuide k g).session = s.session := rfl
@[simp] theorem State.setGuide_port (k : Nat) (g : Option Guide) : (s.setGuide k g).port = s.port := rfl
@[simp] theorem State.setGuide_staging (k : Nat) (g : Option Guide) : (s.setGuide k g).staging = s.staging := rfl
@[simp] theorem State.setGuide_engine (k : Nat) (g : Option Guide) : (s.setGuide k g).engine = s.engine := rfl
@[simp] theorem State.setGuide_calib (k : Nat) (g : Option Guide) : (s.setGuide k g).calib = s.calib := rfl
@[simp] theorem State.setGuide_tracker (k : Nat) (g : Option Guide) : (s.setGuide k g).tracker = s.tracker := rfl
@[simp] theorem State.setGuide_regions (k : Nat) (g : Option Guide) : (s.setGuide k g).regions = s.regions := rfl
@[simp] theorem State.setGuide_stacker (k : Nat) (g : Option Guide) : (s.setGuide k g).stacker = s.stacker := rfl
@[simp] theorem State.setGuide_finisher (k : Nat) (g : Option Guide) : (s.setGuide k g).finisher = s.finisher := rfl
@[simp] theorem State.setGuide_stars (k : Nat) (g : Option Guide) :
    (s.setGuide k g).stars = { s.stars with guides := s.stars.guides.set k g } := rfl

/-! ### setSlot -/

@[simp] theorem State.setSlot_pending (k : Nat) (d : DarkSlot) : (s.setSlot k d).pending = s.pending := rfl
@[simp] theorem State.setSlot_freeSeed (k : Nat) (d : DarkSlot) : (s.setSlot k d).freeSeed = s.freeSeed := rfl
@[simp] theorem State.setSlot_time (k : Nat) (d : DarkSlot) : (s.setSlot k d).time = s.time := rfl
@[simp] theorem State.setSlot_power (k : Nat) (d : DarkSlot) : (s.setSlot k d).power = s.power := rfl
@[simp] theorem State.setSlot_link (k : Nat) (d : DarkSlot) : (s.setSlot k d).link = s.link := rfl
@[simp] theorem State.setSlot_eccCorrected (k : Nat) (d : DarkSlot) : (s.setSlot k d).eccCorrected = s.eccCorrected := rfl
@[simp] theorem State.setSlot_format (k : Nat) (d : DarkSlot) : (s.setSlot k d).format = s.format := rfl
@[simp] theorem State.setSlot_config (k : Nat) (d : DarkSlot) : (s.setSlot k d).config = s.config := rfl
@[simp] theorem State.setSlot_session (k : Nat) (d : DarkSlot) : (s.setSlot k d).session = s.session := rfl
@[simp] theorem State.setSlot_port (k : Nat) (d : DarkSlot) : (s.setSlot k d).port = s.port := rfl
@[simp] theorem State.setSlot_staging (k : Nat) (d : DarkSlot) : (s.setSlot k d).staging = s.staging := rfl
@[simp] theorem State.setSlot_engine (k : Nat) (d : DarkSlot) : (s.setSlot k d).engine = s.engine := rfl
@[simp] theorem State.setSlot_stars (k : Nat) (d : DarkSlot) : (s.setSlot k d).stars = s.stars := rfl
@[simp] theorem State.setSlot_tracker (k : Nat) (d : DarkSlot) : (s.setSlot k d).tracker = s.tracker := rfl
@[simp] theorem State.setSlot_regions (k : Nat) (d : DarkSlot) : (s.setSlot k d).regions = s.regions := rfl
@[simp] theorem State.setSlot_stacker (k : Nat) (d : DarkSlot) : (s.setSlot k d).stacker = s.stacker := rfl
@[simp] theorem State.setSlot_finisher (k : Nat) (d : DarkSlot) : (s.setSlot k d).finisher = s.finisher := rfl
@[simp] theorem State.setSlot_calib (k : Nat) (d : DarkSlot) :
    (s.setSlot k d).calib = { s.calib with slots := s.calib.slots.set k d } := rfl

/-! ### setDefects -/

@[simp] theorem setDefects_pending (ds : List Nat) : (setDefects ds s).pending = s.pending := rfl
@[simp] theorem setDefects_freeSeed (ds : List Nat) : (setDefects ds s).freeSeed = s.freeSeed := rfl
@[simp] theorem setDefects_time (ds : List Nat) : (setDefects ds s).time = s.time := rfl
@[simp] theorem setDefects_power (ds : List Nat) : (setDefects ds s).power = s.power := rfl
@[simp] theorem setDefects_link (ds : List Nat) : (setDefects ds s).link = s.link := rfl
@[simp] theorem setDefects_eccCorrected (ds : List Nat) : (setDefects ds s).eccCorrected = s.eccCorrected := rfl
@[simp] theorem setDefects_format (ds : List Nat) : (setDefects ds s).format = s.format := rfl
@[simp] theorem setDefects_config (ds : List Nat) : (setDefects ds s).config = s.config := rfl
@[simp] theorem setDefects_session (ds : List Nat) : (setDefects ds s).session = s.session := rfl
@[simp] theorem setDefects_port (ds : List Nat) : (setDefects ds s).port = s.port := rfl
@[simp] theorem setDefects_staging (ds : List Nat) : (setDefects ds s).staging = s.staging := rfl
@[simp] theorem setDefects_engine (ds : List Nat) : (setDefects ds s).engine = s.engine := rfl
@[simp] theorem setDefects_stars (ds : List Nat) : (setDefects ds s).stars = s.stars := rfl
@[simp] theorem setDefects_tracker (ds : List Nat) : (setDefects ds s).tracker = s.tracker := rfl
@[simp] theorem setDefects_regions (ds : List Nat) : (setDefects ds s).regions = s.regions := rfl
@[simp] theorem setDefects_stacker (ds : List Nat) : (setDefects ds s).stacker = s.stacker := rfl
@[simp] theorem setDefects_finisher (ds : List Nat) : (setDefects ds s).finisher = s.finisher := rfl
@[simp] theorem setDefects_calib (ds : List Nat) : (setDefects ds s).calib = { s.calib with defects := ds } := rfl

/-! ### setOutTile -/

@[simp] theorem setOutTile_pending (k : Nat) (o : Option OutTile) : (setOutTile k o s).pending = s.pending := rfl
@[simp] theorem setOutTile_freeSeed (k : Nat) (o : Option OutTile) : (setOutTile k o s).freeSeed = s.freeSeed := rfl
@[simp] theorem setOutTile_time (k : Nat) (o : Option OutTile) : (setOutTile k o s).time = s.time := rfl
@[simp] theorem setOutTile_power (k : Nat) (o : Option OutTile) : (setOutTile k o s).power = s.power := rfl
@[simp] theorem setOutTile_link (k : Nat) (o : Option OutTile) : (setOutTile k o s).link = s.link := rfl
@[simp] theorem setOutTile_eccCorrected (k : Nat) (o : Option OutTile) : (setOutTile k o s).eccCorrected = s.eccCorrected := rfl
@[simp] theorem setOutTile_format (k : Nat) (o : Option OutTile) : (setOutTile k o s).format = s.format := rfl
@[simp] theorem setOutTile_config (k : Nat) (o : Option OutTile) : (setOutTile k o s).config = s.config := rfl
@[simp] theorem setOutTile_session (k : Nat) (o : Option OutTile) : (setOutTile k o s).session = s.session := rfl
@[simp] theorem setOutTile_port (k : Nat) (o : Option OutTile) : (setOutTile k o s).port = s.port := rfl
@[simp] theorem setOutTile_staging (k : Nat) (o : Option OutTile) : (setOutTile k o s).staging = s.staging := rfl
@[simp] theorem setOutTile_engine (k : Nat) (o : Option OutTile) : (setOutTile k o s).engine = s.engine := rfl
@[simp] theorem setOutTile_calib (k : Nat) (o : Option OutTile) : (setOutTile k o s).calib = s.calib := rfl
@[simp] theorem setOutTile_stars (k : Nat) (o : Option OutTile) : (setOutTile k o s).stars = s.stars := rfl
@[simp] theorem setOutTile_tracker (k : Nat) (o : Option OutTile) : (setOutTile k o s).tracker = s.tracker := rfl
@[simp] theorem setOutTile_regions (k : Nat) (o : Option OutTile) : (setOutTile k o s).regions = s.regions := rfl
@[simp] theorem setOutTile_stacker (k : Nat) (o : Option OutTile) : (setOutTile k o s).stacker = s.stacker := rfl
@[simp] theorem setOutTile_finisher (k : Nat) (o : Option OutTile) :
    (setOutTile k o s).finisher = { s.finisher with tiles := s.finisher.tiles.set none k o } := rfl

/-! ### endJob -/

@[simp] theorem endJob_pending  : (endJob s).pending = s.pending := rfl
@[simp] theorem endJob_freeSeed  : (endJob s).freeSeed = s.freeSeed := rfl
@[simp] theorem endJob_time  : (endJob s).time = s.time := rfl
@[simp] theorem endJob_power  : (endJob s).power = s.power := rfl
@[simp] theorem endJob_link  : (endJob s).link = s.link := rfl
@[simp] theorem endJob_eccCorrected  : (endJob s).eccCorrected = s.eccCorrected := rfl
@[simp] theorem endJob_format  : (endJob s).format = s.format := rfl
@[simp] theorem endJob_config  : (endJob s).config = s.config := rfl
@[simp] theorem endJob_session  : (endJob s).session = s.session := rfl
@[simp] theorem endJob_port  : (endJob s).port = s.port := rfl
@[simp] theorem endJob_staging  : (endJob s).staging = s.staging := rfl
@[simp] theorem endJob_calib  : (endJob s).calib = s.calib := rfl
@[simp] theorem endJob_stars  : (endJob s).stars = s.stars := rfl
@[simp] theorem endJob_tracker  : (endJob s).tracker = s.tracker := rfl
@[simp] theorem endJob_regions  : (endJob s).regions = s.regions := rfl
@[simp] theorem endJob_stacker  : (endJob s).stacker = s.stacker := rfl
@[simp] theorem endJob_finisher  : (endJob s).finisher = s.finisher := rfl
@[simp] theorem endJob_engine : (endJob s).engine = { s.engine with job := none } := rfl

/-! ### countCorrected -/

@[simp] theorem countCorrected_pending (e : Ecc) : (countCorrected e s).pending = s.pending := rfl
@[simp] theorem countCorrected_freeSeed (e : Ecc) : (countCorrected e s).freeSeed = s.freeSeed := rfl
@[simp] theorem countCorrected_time (e : Ecc) : (countCorrected e s).time = s.time := rfl
@[simp] theorem countCorrected_power (e : Ecc) : (countCorrected e s).power = s.power := rfl
@[simp] theorem countCorrected_link (e : Ecc) : (countCorrected e s).link = s.link := rfl
@[simp] theorem countCorrected_format (e : Ecc) : (countCorrected e s).format = s.format := rfl
@[simp] theorem countCorrected_config (e : Ecc) : (countCorrected e s).config = s.config := rfl
@[simp] theorem countCorrected_session (e : Ecc) : (countCorrected e s).session = s.session := rfl
@[simp] theorem countCorrected_port (e : Ecc) : (countCorrected e s).port = s.port := rfl
@[simp] theorem countCorrected_staging (e : Ecc) : (countCorrected e s).staging = s.staging := rfl
@[simp] theorem countCorrected_engine (e : Ecc) : (countCorrected e s).engine = s.engine := rfl
@[simp] theorem countCorrected_calib (e : Ecc) : (countCorrected e s).calib = s.calib := rfl
@[simp] theorem countCorrected_stars (e : Ecc) : (countCorrected e s).stars = s.stars := rfl
@[simp] theorem countCorrected_tracker (e : Ecc) : (countCorrected e s).tracker = s.tracker := rfl
@[simp] theorem countCorrected_regions (e : Ecc) : (countCorrected e s).regions = s.regions := rfl
@[simp] theorem countCorrected_stacker (e : Ecc) : (countCorrected e s).stacker = s.stacker := rfl
@[simp] theorem countCorrected_finisher (e : Ecc) : (countCorrected e s).finisher = s.finisher := rfl
@[simp] theorem countCorrected_eccCorrected (e : Ecc) :
    (countCorrected e s).eccCorrected = min (s.eccCorrected + e.corrected) 65535 := rfl

/-! ### shiftFrame -/

@[simp] theorem shiftFrame_pending (n : Nat) : (shiftFrame n s).pending = s.pending := rfl
@[simp] theorem shiftFrame_freeSeed (n : Nat) : (shiftFrame n s).freeSeed = s.freeSeed := rfl
@[simp] theorem shiftFrame_time (n : Nat) : (shiftFrame n s).time = s.time := rfl
@[simp] theorem shiftFrame_power (n : Nat) : (shiftFrame n s).power = s.power := rfl
@[simp] theorem shiftFrame_eccCorrected (n : Nat) : (shiftFrame n s).eccCorrected = s.eccCorrected := rfl
@[simp] theorem shiftFrame_format (n : Nat) : (shiftFrame n s).format = s.format := rfl
@[simp] theorem shiftFrame_config (n : Nat) : (shiftFrame n s).config = s.config := rfl
@[simp] theorem shiftFrame_session (n : Nat) : (shiftFrame n s).session = s.session := rfl
@[simp] theorem shiftFrame_port (n : Nat) : (shiftFrame n s).port = s.port := rfl
@[simp] theorem shiftFrame_staging (n : Nat) : (shiftFrame n s).staging = s.staging := rfl
@[simp] theorem shiftFrame_engine (n : Nat) : (shiftFrame n s).engine = s.engine := rfl
@[simp] theorem shiftFrame_calib (n : Nat) : (shiftFrame n s).calib = s.calib := rfl
@[simp] theorem shiftFrame_stars (n : Nat) : (shiftFrame n s).stars = s.stars := rfl
@[simp] theorem shiftFrame_tracker (n : Nat) : (shiftFrame n s).tracker = s.tracker := rfl
@[simp] theorem shiftFrame_regions (n : Nat) : (shiftFrame n s).regions = s.regions := rfl
@[simp] theorem shiftFrame_stacker (n : Nat) : (shiftFrame n s).stacker = s.stacker := rfl
@[simp] theorem shiftFrame_finisher (n : Nat) : (shiftFrame n s).finisher = s.finisher := rfl
@[simp] theorem shiftFrame_link (n : Nat) : (shiftFrame n s).link = { s.link with shiftOut := s.link.slot.shift n } := rfl

/-! ### takeFrame -/

@[simp] theorem takeFrame_pending (k g : Byte) (n : Nat) : (takeFrame k g n s).pending = s.pending := rfl
@[simp] theorem takeFrame_freeSeed (k g : Byte) (n : Nat) : (takeFrame k g n s).freeSeed = s.freeSeed := rfl
@[simp] theorem takeFrame_time (k g : Byte) (n : Nat) : (takeFrame k g n s).time = s.time := rfl
@[simp] theorem takeFrame_eccCorrected (k g : Byte) (n : Nat) : (takeFrame k g n s).eccCorrected = s.eccCorrected := rfl
@[simp] theorem takeFrame_format (k g : Byte) (n : Nat) : (takeFrame k g n s).format = s.format := rfl
@[simp] theorem takeFrame_config (k g : Byte) (n : Nat) : (takeFrame k g n s).config = s.config := rfl
@[simp] theorem takeFrame_session (k g : Byte) (n : Nat) : (takeFrame k g n s).session = s.session := rfl
@[simp] theorem takeFrame_port (k g : Byte) (n : Nat) : (takeFrame k g n s).port = s.port := rfl
@[simp] theorem takeFrame_staging (k g : Byte) (n : Nat) : (takeFrame k g n s).staging = s.staging := rfl
@[simp] theorem takeFrame_engine (k g : Byte) (n : Nat) : (takeFrame k g n s).engine = s.engine := rfl
@[simp] theorem takeFrame_calib (k g : Byte) (n : Nat) : (takeFrame k g n s).calib = s.calib := rfl
@[simp] theorem takeFrame_stars (k g : Byte) (n : Nat) : (takeFrame k g n s).stars = s.stars := rfl
@[simp] theorem takeFrame_tracker (k g : Byte) (n : Nat) : (takeFrame k g n s).tracker = s.tracker := rfl
@[simp] theorem takeFrame_regions (k g : Byte) (n : Nat) : (takeFrame k g n s).regions = s.regions := rfl
@[simp] theorem takeFrame_stacker (k g : Byte) (n : Nat) : (takeFrame k g n s).stacker = s.stacker := rfl
@[simp] theorem takeFrame_finisher (k g : Byte) (n : Nat) : (takeFrame k g n s).finisher = s.finisher := rfl
@[simp] theorem takeFrame_power (k g : Byte) (n : Nat) : (takeFrame k g n s).power = { s.power with napTimer := 0 } := rfl
@[simp] theorem takeFrame_link (k g : Byte) (n : Nat) :
    (takeFrame k g n s).link = { s.link with slot := .pending k g, shiftOut := s.link.slot.shift n } := rfl

/-! ### deliver -/

@[simp] theorem deliver_pending (k g : Byte) (st : Status) (y : Body) : (deliver k g st y s).pending = s.pending := rfl
@[simp] theorem deliver_freeSeed (k g : Byte) (st : Status) (y : Body) : (deliver k g st y s).freeSeed = s.freeSeed := rfl
@[simp] theorem deliver_time (k g : Byte) (st : Status) (y : Body) : (deliver k g st y s).time = s.time := rfl
@[simp] theorem deliver_power (k g : Byte) (st : Status) (y : Body) : (deliver k g st y s).power = s.power := rfl
@[simp] theorem deliver_eccCorrected (k g : Byte) (st : Status) (y : Body) : (deliver k g st y s).eccCorrected = s.eccCorrected := rfl
@[simp] theorem deliver_format (k g : Byte) (st : Status) (y : Body) : (deliver k g st y s).format = s.format := rfl
@[simp] theorem deliver_config (k g : Byte) (st : Status) (y : Body) : (deliver k g st y s).config = s.config := rfl
@[simp] theorem deliver_session (k g : Byte) (st : Status) (y : Body) : (deliver k g st y s).session = s.session := rfl
@[simp] theorem deliver_port (k g : Byte) (st : Status) (y : Body) : (deliver k g st y s).port = s.port := rfl
@[simp] theorem deliver_staging (k g : Byte) (st : Status) (y : Body) : (deliver k g st y s).staging = s.staging := rfl
@[simp] theorem deliver_engine (k g : Byte) (st : Status) (y : Body) : (deliver k g st y s).engine = s.engine := rfl
@[simp] theorem deliver_calib (k g : Byte) (st : Status) (y : Body) : (deliver k g st y s).calib = s.calib := rfl
@[simp] theorem deliver_stars (k g : Byte) (st : Status) (y : Body) : (deliver k g st y s).stars = s.stars := rfl
@[simp] theorem deliver_tracker (k g : Byte) (st : Status) (y : Body) : (deliver k g st y s).tracker = s.tracker := rfl
@[simp] theorem deliver_regions (k g : Byte) (st : Status) (y : Body) : (deliver k g st y s).regions = s.regions := rfl
@[simp] theorem deliver_stacker (k g : Byte) (st : Status) (y : Body) : (deliver k g st y s).stacker = s.stacker := rfl
@[simp] theorem deliver_finisher (k g : Byte) (st : Status) (y : Body) : (deliver k g st y s).finisher = s.finisher := rfl
@[simp] theorem deliver_link (k g : Byte) (st : Status) (y : Body) :
    (deliver k g st y s).link = { s.link with slot := .full ⟨replyKind k, g, st, y⟩ } := rfl

/-! ### answered -/

@[simp] theorem State.answered_pending (r : Req) (f : ReqFrame) (st : Status) (y : Body) : (s.answered r f st y).pending = s.pending := rfl
@[simp] theorem State.answered_freeSeed (r : Req) (f : ReqFrame) (st : Status) (y : Body) : (s.answered r f st y).freeSeed = s.freeSeed := rfl
@[simp] theorem State.answered_time (r : Req) (f : ReqFrame) (st : Status) (y : Body) : (s.answered r f st y).time = s.time := rfl
@[simp] theorem State.answered_power (r : Req) (f : ReqFrame) (st : Status) (y : Body) : (s.answered r f st y).power = s.power := rfl
@[simp] theorem State.answered_eccCorrected (r : Req) (f : ReqFrame) (st : Status) (y : Body) : (s.answered r f st y).eccCorrected = s.eccCorrected := rfl
@[simp] theorem State.answered_format (r : Req) (f : ReqFrame) (st : Status) (y : Body) : (s.answered r f st y).format = s.format := rfl
@[simp] theorem State.answered_config (r : Req) (f : ReqFrame) (st : Status) (y : Body) : (s.answered r f st y).config = s.config := rfl
@[simp] theorem State.answered_session (r : Req) (f : ReqFrame) (st : Status) (y : Body) : (s.answered r f st y).session = s.session := rfl
@[simp] theorem State.answered_port (r : Req) (f : ReqFrame) (st : Status) (y : Body) : (s.answered r f st y).port = s.port := rfl
@[simp] theorem State.answered_staging (r : Req) (f : ReqFrame) (st : Status) (y : Body) : (s.answered r f st y).staging = s.staging := rfl
@[simp] theorem State.answered_engine (r : Req) (f : ReqFrame) (st : Status) (y : Body) : (s.answered r f st y).engine = s.engine := rfl
@[simp] theorem State.answered_calib (r : Req) (f : ReqFrame) (st : Status) (y : Body) : (s.answered r f st y).calib = s.calib := rfl
@[simp] theorem State.answered_stars (r : Req) (f : ReqFrame) (st : Status) (y : Body) : (s.answered r f st y).stars = s.stars := rfl
@[simp] theorem State.answered_tracker (r : Req) (f : ReqFrame) (st : Status) (y : Body) : (s.answered r f st y).tracker = s.tracker := rfl
@[simp] theorem State.answered_regions (r : Req) (f : ReqFrame) (st : Status) (y : Body) : (s.answered r f st y).regions = s.regions := rfl
@[simp] theorem State.answered_stacker (r : Req) (f : ReqFrame) (st : Status) (y : Body) : (s.answered r f st y).stacker = s.stacker := rfl
@[simp] theorem State.answered_finisher (r : Req) (f : ReqFrame) (st : Status) (y : Body) : (s.answered r f st y).finisher = s.finisher := rfl
/-! ### clearLayers -/

@[simp] theorem clearLayers_pending  : (clearLayers s).pending = s.pending := rfl
@[simp] theorem clearLayers_freeSeed  : (clearLayers s).freeSeed = s.freeSeed := rfl
@[simp] theorem clearLayers_time  : (clearLayers s).time = s.time := rfl
@[simp] theorem clearLayers_power  : (clearLayers s).power = s.power := rfl
@[simp] theorem clearLayers_link  : (clearLayers s).link = s.link := rfl
@[simp] theorem clearLayers_eccCorrected  : (clearLayers s).eccCorrected = s.eccCorrected := rfl
@[simp] theorem clearLayers_format  : (clearLayers s).format = s.format := rfl
@[simp] theorem clearLayers_config  : (clearLayers s).config = s.config := rfl
@[simp] theorem clearLayers_session  : (clearLayers s).session = s.session := rfl
@[simp] theorem clearLayers_port  : (clearLayers s).port = s.port := rfl
@[simp] theorem clearLayers_staging  : (clearLayers s).staging = s.staging := rfl
@[simp] theorem clearLayers_engine  : (clearLayers s).engine = s.engine := rfl
@[simp] theorem clearLayers_calib  : (clearLayers s).calib = s.calib := rfl
@[simp] theorem clearLayers_stars  : (clearLayers s).stars = s.stars := rfl
@[simp] theorem clearLayers_tracker  : (clearLayers s).tracker = s.tracker := rfl
@[simp] theorem clearLayers_regions  : (clearLayers s).regions = s.regions := rfl
@[simp] theorem clearLayers_finisher  : (clearLayers s).finisher = s.finisher := rfl
/-! ### openScan -/

@[simp] theorem openScan_pending  : (openScan s).pending = s.pending := rfl
@[simp] theorem openScan_freeSeed  : (openScan s).freeSeed = s.freeSeed := rfl
@[simp] theorem openScan_time  : (openScan s).time = s.time := rfl
@[simp] theorem openScan_power  : (openScan s).power = s.power := rfl
@[simp] theorem openScan_link  : (openScan s).link = s.link := rfl
@[simp] theorem openScan_eccCorrected  : (openScan s).eccCorrected = s.eccCorrected := rfl
@[simp] theorem openScan_format  : (openScan s).format = s.format := rfl
@[simp] theorem openScan_config  : (openScan s).config = s.config := rfl
@[simp] theorem openScan_session  : (openScan s).session = s.session := rfl
@[simp] theorem openScan_port  : (openScan s).port = s.port := rfl
@[simp] theorem openScan_staging  : (openScan s).staging = s.staging := rfl
@[simp] theorem openScan_engine  : (openScan s).engine = s.engine := rfl
@[simp] theorem openScan_calib  : (openScan s).calib = s.calib := rfl
@[simp] theorem openScan_tracker  : (openScan s).tracker = s.tracker := rfl
@[simp] theorem openScan_regions  : (openScan s).regions = s.regions := rfl
@[simp] theorem openScan_stacker  : (openScan s).stacker = s.stacker := rfl
@[simp] theorem openScan_finisher  : (openScan s).finisher = s.finisher := rfl
/-! ### Layers -/

@[simp] theorem setRecord_settings (k : Stacker) (l : LayerId) (a : Nat) (r : Acc) :
    (k.setRecord l a r).settings = k.settings := by cases l <;> rfl
@[simp] theorem setRecord_totals (k : Stacker) (l : LayerId) (a : Nat) (r : Acc) :
    (k.setRecord l a r).totals = k.totals := by cases l <;> rfl
@[simp] theorem setRecord_skyStatus (k : Stacker) (l : LayerId) (a : Nat) (r : Acc) :
    (k.setRecord l a r).skyStatus = k.skyStatus := by cases l <;> rfl
@[simp] theorem setRecord_groundStatus (k : Stacker) (l : LayerId) (a : Nat) (r : Acc) :
    (k.setRecord l a r).groundStatus = k.groundStatus := by cases l <;> rfl
@[simp] theorem setRecord_statusDefined (k : Stacker) (l : LayerId) (a : Nat) (r : Acc) :
    (k.setRecord l a r).statusDefined = k.statusDefined := by cases l <;> rfl

end Sys2Proof.Machine
end

