-- ==== Sys2Proof/Laws/Ops.lean ====
section
/-! SUPPORT. For each shared operation, one lemma that says once everything it can do, which later proofs cite instead of
unfolding it. -/

namespace Sys2Proof.Machine

variable (s : State)

/-! ## Reports and session changes -/

/-- Posting adds the report at the end of the queue, or sets REPORT_OVERFLOW; nothing else. -/
theorem post_cases (r : Report) :
    (s.link.reports.length < 32 ∧
      post r s = { s with link := { s.link with reports := s.link.reports ++ [⟨s.time.clock, r⟩] } }) ∨
    (32 ≤ s.link.reports.length ∧ post r s = { s with link := { s.link with overflow := true } }) := by
  unfold post queueCapacity
  split
  · exact .inl ⟨‹_›, rfl⟩
  · exact .inr ⟨by omega, rfl⟩

/-- Posting touches only the queue and the overflow flag of the link. -/
theorem post_eq (r : Report) : ∃ q o, post r s = { s with link := { s.link with reports := q, overflow := o } } ∧
    q.length ≤ max s.link.reports.length 32 := by
  rcases post_cases s r with ⟨h, e⟩ | ⟨h, e⟩
  · exact ⟨_, s.link.overflow, e, by simp; omega⟩
  · exact ⟨s.link.reports, true, e, le_max_left _ _⟩

@[simp] theorem post_pending (r : Report) : (post r s).pending = s.pending := by unfold post; split <;> rfl
@[simp] theorem post_freeSeed (r : Report) : (post r s).freeSeed = s.freeSeed := by unfold post; split <;> rfl
@[simp] theorem post_time (r : Report) : (post r s).time = s.time := by unfold post; split <;> rfl
@[simp] theorem post_power (r : Report) : (post r s).power = s.power := by unfold post; split <;> rfl
@[simp] theorem post_eccCorrected (r : Report) : (post r s).eccCorrected = s.eccCorrected := by unfold post; split <;> rfl
@[simp] theorem post_format (r : Report) : (post r s).format = s.format := by unfold post; split <;> rfl
@[simp] theorem post_config (r : Report) : (post r s).config = s.config := by unfold post; split <;> rfl
@[simp] theorem post_session (r : Report) : (post r s).session = s.session := by unfold post; split <;> rfl
@[simp] theorem post_port (r : Report) : (post r s).port = s.port := by unfold post; split <;> rfl
@[simp] theorem post_staging (r : Report) : (post r s).staging = s.staging := by unfold post; split <;> rfl
@[simp] theorem post_engine (r : Report) : (post r s).engine = s.engine := by unfold post; split <;> rfl
@[simp] theorem post_calib (r : Report) : (post r s).calib = s.calib := by unfold post; split <;> rfl
@[simp] theorem post_stars (r : Report) : (post r s).stars = s.stars := by unfold post; split <;> rfl
@[simp] theorem post_tracker (r : Report) : (post r s).tracker = s.tracker := by unfold post; split <;> rfl
@[simp] theorem post_regions (r : Report) : (post r s).regions = s.regions := by unfold post; split <;> rfl
@[simp] theorem post_stacker (r : Report) : (post r s).stacker = s.stacker := by unfold post; split <;> rfl
@[simp] theorem post_finisher (r : Report) : (post r s).finisher = s.finisher := by unfold post; split <;> rfl
@[simp] theorem post_slot (r : Report) : (post r s).link.slot = s.link.slot := by unfold post; split <;> rfl
@[simp] theorem post_ready (r : Report) : (post r s).link.ready = s.link.ready := by unfold post; split <;> rfl
@[simp] theorem post_overrun (r : Report) : (post r s).link.overrun = s.link.overrun := by unfold post; split <;> rfl
@[simp] theorem post_shiftOut (r : Report) : (post r s).link.shiftOut = s.link.shiftOut := by unfold post; split <;> rfl

/-- What posting does to the link depends on the link and the clock alone. -/
theorem post_link_congr {s t : State} (r : Report) (hl : s.link = t.link) (ht : s.time.clock = t.time.clock) :
    (post r s).link = (post r t).link := by
  unfold post
  rw [hl, ht]
  split <;> rfl

/-- A change of session state is the new state and its report. -/
theorem changeSession_eq (st : SessionState) (reason : SessionReason) :
    changeSession st reason s = post (.session st reason) { s with session := { s.session with state := st } } := rfl

/-- Closing enters CLOSED with nothing outstanding, else CLOSING. -/
theorem closeSession_cases (reason : SessionReason) :
    (s.outstandingCount = 0 ∧ closeSession reason s = changeSession .closed reason s) ∨
    (s.outstandingCount ≠ 0 ∧ closeSession reason s = changeSession .closing reason s) := by
  unfold closeSession
  split
  · exact .inl ⟨‹_›, rfl⟩
  · exact .inr ⟨‹_›, rfl⟩

/-- The drained test ends CLOSING or does nothing. -/
theorem testDrained_cases :
    (s.session.state = .closing ∧ s.outstandingCount = 0 ∧ testDrained s = changeSession .closed .drained s) ∨
    testDrained s = s := by
  unfold testDrained
  split
  · exact .inl ⟨by simp_all, by simp_all, rfl⟩
  · exact .inr rfl

/-! ## Tables -/

/-- Reading a staging buffer after writing one. -/
theorem buffer_setBuffer (b c : Nat) (f : Option SubFrame) :
    (s.setBuffer b f).buffer c = if b = c ∧ b < s.staging.length then f else s.buffer c := by
  simp only [State.buffer, State.setBuffer_staging, List.getD_eq_getElem?_getD, List.getElem?_set]
  split_ifs <;> first | (exfalso; omega) | simp_all

theorem buffer_setBuffer_ne {b c : Nat} (h : c ≠ b) (f : Option SubFrame) : (s.setBuffer b f).buffer c = s.buffer c := by
  rw [buffer_setBuffer, if_neg fun x => h x.1.symm]

/-- A buffer that holds a sub-frame is one of the pool's. -/
theorem lt_of_buffer {s : State} {b : Nat} {f : SubFrame} (h : s.buffer b = some f) : b < s.staging.length := by
  by_contra hn
  simp [State.buffer, List.getD_eq_getElem?_getD, List.getElem?_eq_none (not_lt.mp hn)] at h

/-- Changing a buffer's sub-frame does so where there is one. -/
theorem modifyBuffer_cases (b : Nat) (g : SubFrame → SubFrame) :
    (∃ f, s.buffer b = some f ∧ s.modifyBuffer b g = s.setBuffer b (some (g f))) ∨
    (s.buffer b = none ∧ s.modifyBuffer b g = s) := by
  unfold State.modifyBuffer
  split
  · exact .inl ⟨_, ‹_›, rfl⟩
  · exact .inr ⟨‹_›, rfl⟩

/-- Reading a guide slot after writing one. -/
theorem guide_setGuide (j k : Nat) (g : Option Guide) :
    (s.setGuide j g).stars.guide k = if j = k ∧ j < s.stars.guides.length then g else s.stars.guide k := by
  simp only [StarUnit.guide, State.setGuide_stars, List.getD_eq_getElem?_getD, List.getElem?_set]
  split_ifs <;> first | (exfalso; omega) | simp_all

/-- Reading a dark slot after writing one. -/
theorem slot_setSlot (j k : Nat) (d : DarkSlot) :
    (s.setSlot j d).calib.slot k = if j = k ∧ j < s.calib.slots.length then d else s.calib.slot k := by
  simp only [Calibration.slot, State.setSlot_calib, List.getD_eq_getElem?_getD, List.getElem?_set]
  split_ifs <;> first | (exfalso; omega) | simp_all

/-- Reading a layer's record after writing one. -/
theorem record_setRecord (k : Stacker) (l m : LayerId) (a b : Nat) (r : Acc) :
    (k.setRecord l a r).record m b = if l = m ∧ a = b then r else k.record m b := by
  cases l <;> cases m <;> simp only [Stacker.record, Stacker.records, Stacker.setRecord] <;> rcases eq_or_ne a b with h | h
  all_goals first | (subst h; simp) | simp [h, Plane.get_set_of_ne _ _ h.symm]

/-- Reading a tile's record after writing one. -/
theorem tile_setOutTile (j k : Nat) (o : Option OutTile) :
    (setOutTile j o s).finisher.tile k = if j = k then o else s.finisher.tile k := by
  by_cases h : j = k
  · subst h; simp [Finisher.tile]
  · simp [Finisher.tile, h, Plane.get_set_of_ne _ _ (Ne.symm h)]

/-! ## The link -/

/-- A request while RDY is low is discarded. -/
theorem serve_busy {α : Type} (r : Req) (f : ReqFrame) (fields : List Byte → Option α) (owner : α → State → State × Answer)
    (h : s.rdy = false) : serve r f fields owner s = overrunFrame (frameLength f) s := by
  simp [serve, h]

/-- A request that SLEEP does not take is answered ASLEEP. -/
theorem serve_asleep {α : Type} (r : Req) (f : ReqFrame) (fields : List Byte → Option α)
    (owner : α → State → State × Answer) (h : s.rdy = true) (hp : s.power.state = .sleep) (hr : takenInSleep r = false) :
    serve r f fields owner s = (s.heard r f).answered r f .asleep .empty := by
  simp [serve, h, hp, hr, State.heard, State.answered]

/-- A request whose payload is too short is answered BAD_LENGTH. -/
theorem serve_badLength {α : Type} (r : Req) (f : ReqFrame) (fields : List Byte → Option α)
    (owner : α → State → State × Answer) (h : s.takes) (hf : fields f.payload = none) :
    serve r f fields owner s = (s.entered r f).answered r f .badLength .empty := by
  simp [serve, h.1, h.2, hf, State.entered, State.answered]

/-- A request that reaches its owner: the owner's answer is settled on the part as entered. -/
theorem serve_owner {α : Type} (r : Req) (f : ReqFrame) (fields : List Byte → Option α)
    (owner : α → State → State × Answer) (h : s.takes) {x : α} (hf : fields f.payload = some x) :
    serve r f fields owner s = settle r.code f.tag (owner x (s.entered r f)) := by
  simp [serve, h.1, h.2, hf, State.entered]

/-- A wake posts a POWER report from STANDBY and does nothing otherwise. -/
theorem wake_cases (c : PowerCause) :
    (s.power.state = .standby ∧
      wake c s = post (.power .run c) { s with power := { s.power with state := .run, napTimer := 0 } }) ∨
    (s.power.state ≠ .standby ∧ wake c s = s) := by
  unfold wake
  split <;> simp_all

@[simp] theorem entered_pending (r : Req) (f : ReqFrame) : (s.entered r f).pending = s.pending := by
  unfold State.entered wake; split <;> simp
@[simp] theorem entered_freeSeed (r : Req) (f : ReqFrame) : (s.entered r f).freeSeed = s.freeSeed := by
  unfold State.entered wake; split <;> simp
@[simp] theorem entered_time (r : Req) (f : ReqFrame) : (s.entered r f).time = s.time := by
  unfold State.entered wake; split <;> simp
@[simp] theorem entered_eccCorrected (r : Req) (f : ReqFrame) : (s.entered r f).eccCorrected = s.eccCorrected := by
  unfold State.entered wake; split <;> simp
@[simp] theorem entered_format (r : Req) (f : ReqFrame) : (s.entered r f).format = s.format := by
  unfold State.entered wake; split <;> simp
@[simp] theorem entered_config (r : Req) (f : ReqFrame) : (s.entered r f).config = s.config := by
  unfold State.entered wake; split <;> simp
@[simp] theorem entered_session (r : Req) (f : ReqFrame) : (s.entered r f).session = s.session := by
  unfold State.entered wake; split <;> simp
@[simp] theorem entered_port (r : Req) (f : ReqFrame) : (s.entered r f).port = s.port := by
  unfold State.entered wake; split <;> simp
@[simp] theorem entered_staging (r : Req) (f : ReqFrame) : (s.entered r f).staging = s.staging := by
  unfold State.entered wake; split <;> simp
@[simp] theorem entered_engine (r : Req) (f : ReqFrame) : (s.entered r f).engine = s.engine := by
  unfold State.entered wake; split <;> simp
@[simp] theorem entered_calib (r : Req) (f : ReqFrame) : (s.entered r f).calib = s.calib := by
  unfold State.entered wake; split <;> simp
@[simp] theorem entered_stars (r : Req) (f : ReqFrame) : (s.entered r f).stars = s.stars := by
  unfold State.entered wake; split <;> simp
@[simp] theorem entered_tracker (r : Req) (f : ReqFrame) : (s.entered r f).tracker = s.tracker := by
  unfold State.entered wake; split <;> simp
@[simp] theorem entered_regions (r : Req) (f : ReqFrame) : (s.entered r f).regions = s.regions := by
  unfold State.entered wake; split <;> simp
@[simp] theorem entered_stacker (r : Req) (f : ReqFrame) : (s.entered r f).stacker = s.stacker := by
  unfold State.entered wake; split <;> simp
@[simp] theorem entered_finisher (r : Req) (f : ReqFrame) : (s.entered r f).finisher = s.finisher := by
  unfold State.entered wake; split <;> simp

/-- A request that reaches its owner finds the part in RUN. -/
theorem entered_state (r : Req) (f : ReqFrame) (h : s.takes) : (s.entered r f).power.state = .run := by
  unfold State.entered wake
  have := h.2
  split <;> simp_all

/-! ## Edits, settings, samples -/

/-- An edit is applied at once, joined to the queue, or refused (R56). -/
theorem takeEdit_cases (e : Edit) :
    (s.lightInProcessing = false ∧ s.engine.edits = [] ∧ takeEdit e s = (applyEdit e s, .ok)) ∨
    (s.engine.edits.length < 16 ∧
      takeEdit e s = ({ s with engine := { s.engine with edits := s.engine.edits ++ [e] } }, .ok)) ∨
    (16 ≤ s.engine.edits.length ∧ takeEdit e s = (s, .noSpace)) := by
  unfold takeEdit editCapacity
  split
  · exact .inl ⟨by simp_all, by simp_all, rfl⟩
  · split
    · exact .inr (.inl ⟨‹_›, rfl⟩)
    · exact .inr (.inr ⟨by omega, rfl⟩)

/-- A sample is clipped, rejected, or added with the count (R144). -/
theorem contribute_cases (c : SessionConfig) (k : StackSettings) (raw : Nat) (x : Int) (r : Acc) :
    (c.whiteLevel ≤ raw ∧ contribute c k raw x r = .clipped) ∨
    (raw < c.whiteLevel ∧ rejects k r x = true ∧ contribute c k raw x r = .rejected) ∨
    (raw < c.whiteLevel ∧ rejects k r x = false ∧
      contribute c k raw x r = .added { r with sum := r.sum + x, count := r.count + 1 }) := by
  unfold contribute SessionConfig.atWhite
  by_cases h : c.whiteLevel ≤ raw
  · simp [h]
  · cases hr : rejects k r x <;> simp [h, not_le.mp h]

/-- With no uncorrectable word no read fails. -/
theorem readFails_clean (e : Ecc) (site : ReadSite) (w : MemWord) (h : e.uncorrectable = []) :
    readFails e site w = false := by
  simp [readFails, h]

theorem recordFails_clean (e : Ecc) (site : ReadSite) (l : LayerId) (a : Nat) (h : e.uncorrectable = []) :
    recordFails e site l a = false := by
  simp [recordFails, readFails_clean, h]

theorem darkFails_clean (e : Ecc) (site : ReadSite) (c : DarkChoice) (i : Nat) (h : e.uncorrectable = []) :
    darkFails e site c i = [] := by
  simp [darkFails, readFails_clean, h]

/-! ## Work abandoned by a command, and the entry into SLEEP -/

theorem loop_setRecord (l m : LayerId) (n i : Nat) (k : Stacker) (b : Nat) :
    (loop (fun a k => k.setRecord l a Acc.zero) n i k).record m b =
      if l = m ∧ i ≤ b ∧ b < i + n then Acc.zero else k.record m b := by
  induction n generalizing i k with
  | zero => rw [loop, if_neg (by omega)]
  | succ n ih =>
    rw [loop, ih, record_setRecord]
    by_cases hl : l = m
    · simp only [hl, true_and]
      split_ifs <;> first | rfl | (exfalso; omega)
    · simp [hl]

/-! ## Records of a failing word (R154) -/

/-- The records of a word are those of which it holds a part, all of one tile. -/
theorem mem_recordsOfWord (w a : Nat) : a ∈ recordsOfWord w ↔ wordHolds w a := by
  simp only [recordsOfWord, wordHolds, List.mem_cons, List.not_mem_nil, or_false]
  omega

/-- The 3,072 words of a tile hold its 4,096 records (R141). -/
theorem tile_of_wordHolds {w a : Nat} (h : wordHolds w a) : a / 4096 = w / 3072 := by
  rcases h with h | h
  all_goals
    have : w = a / 4096 * 3072 + (w - a / 4096 * 3072) := by omega
    omega

/-- Losing records: those are unknown, every other record of both layers as before. -/
theorem loseRecords_record (seed : Nat) (l m : LayerId) (as : List Nat) (k : Stacker) (b : Nat) :
    (k.loseRecords seed l as).record m b = if l = m ∧ b ∈ as then unknownRecord seed l b else k.record m b := by
  induction as generalizing k with
  | nil => simp [Stacker.loseRecords]
  | cons a as ih =>
    have h : k.loseRecords seed l (a :: as) = (k.setRecord l a (unknownRecord seed l a)).loseRecords seed l as := rfl
    rw [h, ih, record_setRecord]
    by_cases hb : l = m ∧ b ∈ as
    · rw [if_pos hb, if_pos ⟨hb.1, List.mem_cons_of_mem _ hb.2⟩]
    · rw [if_neg hb]
      by_cases ha : l = m ∧ a = b
      · rw [if_pos ha, if_pos ⟨ha.1, ha.2 ▸ List.mem_cons_self⟩, ha.2]
      · rw [if_neg ha, if_neg]
        rintro ⟨hm, hc⟩
        rcases List.mem_cons.mp hc with h | h
        · exact ha ⟨hm, h.symm⟩
        · exact hb ⟨hm, h⟩

/-- Losing records writes the two layers and nothing else of the stacker. -/
theorem loseRecords_eq (seed : Nat) (l : LayerId) (as : List Nat) (k : Stacker) :
    k.loseRecords seed l as =
      { k with sky := (k.loseRecords seed l as).sky, ground := (k.loseRecords seed l as).ground } := by
  induction as generalizing k with
  | nil => rfl
  | cons a as ih =>
    have h : k.loseRecords seed l (a :: as) = (k.setRecord l a (unknownRecord seed l a)).loseRecords seed l as := rfl
    rw [h, ih]
    cases l <;> rfl

/-- After the read of the record at `a` has failed, a record is as before or held in a failing word of the same tile. -/
theorem damageRecord_record (e : Ecc) (site : ReadSite) (l m : LayerId) (a b : Nat) (q : Option Nat)
    (h : s.tileDamaged l (a / 4096) = false) :
    (damageRecord e site l a q s).stacker.record m b = s.stacker.record m b ∨
      m = l ∧ b / 4096 = a / 4096 ∧ ∃ w, wordHolds w b ∧ readFails e site (l.word w) = true := by
  have hd : (damageTile l (a / 4096) q s).stacker.record m b = s.stacker.record m b := by
    unfold damageTile
    rw [if_neg (by simp [h])]
    cases l <;> cases m <;> simp [Stacker.record, Stacker.records]
  simp only [damageRecord, loseRecords_record, hd]
  split
  · rename_i hm
    obtain ⟨w, hw, hb⟩ := List.mem_flatMap.mp hm.2
    have hw' := List.mem_filter.mp hw
    have ha : wordHolds w a := by simpa [recordWords, wordHolds] using hw'.1
    exact .inr ⟨hm.1.symm, (tile_of_wordHolds ((mem_recordsOfWord w b).mp hb)).trans (tile_of_wordHolds ha).symm, w, (mem_recordsOfWord w b).mp hb, hw'.2⟩
  · exact .inl rfl

/-- Clearing the first `n` records of a layer: those read as cleared, every other record of both layers as before. -/
theorem clearRecords_record (l m : LayerId) (n : Nat) (k : Stacker) (b : Nat) :
    (clearRecords l n k).record m b = if l = m ∧ b < n then Acc.zero else k.record m b := by
  simp [clearRecords, loop_setRecord]

/-- Clearing records writes the two layers and nothing else of the stacker. -/
theorem clearRecords_eq (l : LayerId) (n : Nat) (k : Stacker) :
    clearRecords l n k = { k with sky := (clearRecords l n k).sky, ground := (clearRecords l n k).ground } := by
  refine loop_induct (fun x => x = { k with sky := x.sky, ground := x.ground }) _ (fun i x h => ?_) n 0 k rfl
  rw [h]; cases l <;> rfl

/-- Layer clearing stopped after `units` records: each record is the old one or a cleared one. -/
theorem partialClearing_record (units : Nat) (l : LayerId) (a : Nat) :
    (partialClearing units s).stacker.record l a =
      if a < (match l with | .sky => min units layerRecords | .ground => min (units - layerRecords) layerRecords)
      then Acc.zero else s.stacker.record l a := by
  have h (k : Stacker) : ({ k with statusDefined := false } : Stacker).record l a = k.record l a := by cases l <;> rfl
  cases l <;> simp only [partialClearing, h, clearRecords_record] <;> simp

/-- The entry into SLEEP from an idle RUN leaves no pending standby (R184). -/
theorem enterSleep_power (hr : s.power.state = .run) (hi : s.allIdle = true) :
    (enterSleep s).power.state = .sleep ∧ (enterSleep s).power.pendingStandby = false := by
  cases hp : s.power.pendingStandby <;>
    simp [enterSleep, resolveStandby, State.standbyDue, enterStandby, wake, hr, hi, hp]

/-- Before a light sub-frame's stage has done anything the part is seen as it stands. -/
theorem glimpse_zero {b : Nat} (e : Ecc) (h : s.engine.job = some (.light b)) : glimpse ⟨0, e⟩ s = s := by
  unfold glimpse
  split
  · simp [partialStack]
  · simp only [partialJob, h, partialLight]
    split
    · rfl
    · split <;> simp [measureSlots, partialTrack, applyOutcomes, partialFind, partialStack]

/-- A request that only reports answers OK: with no job in flight with the part as it is, nothing changed; else with some moment
of the job, a free value spent and nothing else changed. -/
theorem showNow_cases (body : State → Body) :
    (s.engine.job = none ∧ showNow body s = (s, .reply .ok (body s))) ∨
    (s.engine.job ≠ none ∧ ∃ p : Progress, p.ecc.corrected = 0 ∧
      showNow body s = ({ s with freeSeed := s.freeSeed + 1 }, .reply .ok (body (glimpse p s)))) := by
  unfold showNow
  split
  · exact .inl ⟨‹_›, rfl⟩
  · exact .inr ⟨by simp_all, _, rfl, rfl⟩

end Sys2Proof.Machine
end

