-- ==== Sys2Proof/Laws/PerInstr.lean ====
section
/-! SUPPORT. Statements made of each command by itself. -/

namespace Sys2Proof.Laws

/-- A command that is a request carries a frame, its kind code is the table's for that request, and the frame read from the
wire is a command of the same request with the same frame. -/
def Carries.Statement (i : Instr) : Prop :=
  ∀ r, i.req? = some r → ∃ f, i.frame? = some f ∧ Req.ofCode r.code = some r ∧
    (r.toInstr f).req? = some r ∧ (r.toInstr f).frame? = some f

theorem Carries.ping (f : ReqFrame) : Carries.Statement (.ping f) := by rintro _ ⟨⟩; exact ⟨f, rfl, by decide, rfl, rfl⟩
theorem Carries.statusGet (f : ReqFrame) : Carries.Statement (.statusGet f) := by rintro _ ⟨⟩; exact ⟨f, rfl, by decide, rfl, rfl⟩
theorem Carries.reportFetch (f : ReqFrame) : Carries.Statement (.reportFetch f) := by rintro _ ⟨⟩; exact ⟨f, rfl, by decide, rfl, rfl⟩
theorem Carries.systemReset (f : ReqFrame) (p : Progress) : Carries.Statement (.systemReset f p) := by rintro _ ⟨⟩; exact ⟨f, rfl, by decide, rfl, rfl⟩
theorem Carries.powerStandby (f : ReqFrame) : Carries.Statement (.powerStandby f) := by rintro _ ⟨⟩; exact ⟨f, rfl, by decide, rfl, rfl⟩
theorem Carries.powerSleep (f : ReqFrame) : Carries.Statement (.powerSleep f) := by rintro _ ⟨⟩; exact ⟨f, rfl, by decide, rfl, rfl⟩
theorem Carries.powerRun (f : ReqFrame) : Carries.Statement (.powerRun f) := by rintro _ ⟨⟩; exact ⟨f, rfl, by decide, rfl, rfl⟩
theorem Carries.powerNap (f : ReqFrame) : Carries.Statement (.powerNap f) := by rintro _ ⟨⟩; exact ⟨f, rfl, by decide, rfl, rfl⟩
theorem Carries.sensorFormat (f : ReqFrame) : Carries.Statement (.sensorFormat f) := by rintro _ ⟨⟩; exact ⟨f, rfl, by decide, rfl, rfl⟩
theorem Carries.sessionConfigure (f : ReqFrame) : Carries.Statement (.sessionConfigure f) := by rintro _ ⟨⟩; exact ⟨f, rfl, by decide, rfl, rfl⟩
theorem Carries.sessionOpen (f : ReqFrame) : Carries.Statement (.sessionOpen f) := by rintro _ ⟨⟩; exact ⟨f, rfl, by decide, rfl, rfl⟩
theorem Carries.sessionPause (f : ReqFrame) : Carries.Statement (.sessionPause f) := by rintro _ ⟨⟩; exact ⟨f, rfl, by decide, rfl, rfl⟩
theorem Carries.sessionResume (f : ReqFrame) : Carries.Statement (.sessionResume f) := by rintro _ ⟨⟩; exact ⟨f, rfl, by decide, rfl, rfl⟩
theorem Carries.sessionClose (f : ReqFrame) : Carries.Statement (.sessionClose f) := by rintro _ ⟨⟩; exact ⟨f, rfl, by decide, rfl, rfl⟩
theorem Carries.sessionDiscard (f : ReqFrame) (p : Progress) : Carries.Statement (.sessionDiscard f p) := by rintro _ ⟨⟩; exact ⟨f, rfl, by decide, rfl, rfl⟩
theorem Carries.sessionInfo (f : ReqFrame) : Carries.Statement (.sessionInfo f) := by rintro _ ⟨⟩; exact ⟨f, rfl, by decide, rfl, rfl⟩
theorem Carries.darkBuild (f : ReqFrame) : Carries.Statement (.darkBuild f) := by rintro _ ⟨⟩; exact ⟨f, rfl, by decide, rfl, rfl⟩
theorem Carries.darkEnd (f : ReqFrame) : Carries.Statement (.darkEnd f) := by rintro _ ⟨⟩; exact ⟨f, rfl, by decide, rfl, rfl⟩
theorem Carries.darkAbort (f : ReqFrame) (p : Progress) : Carries.Statement (.darkAbort f p) := by rintro _ ⟨⟩; exact ⟨f, rfl, by decide, rfl, rfl⟩
theorem Carries.darkFree (f : ReqFrame) : Carries.Statement (.darkFree f) := by rintro _ ⟨⟩; exact ⟨f, rfl, by decide, rfl, rfl⟩
theorem Carries.darkList (f : ReqFrame) : Carries.Statement (.darkList f) := by rintro _ ⟨⟩; exact ⟨f, rfl, by decide, rfl, rfl⟩
theorem Carries.defectAdd (f : ReqFrame) : Carries.Statement (.defectAdd f) := by rintro _ ⟨⟩; exact ⟨f, rfl, by decide, rfl, rfl⟩
theorem Carries.defectRemove (f : ReqFrame) : Carries.Statement (.defectRemove f) := by rintro _ ⟨⟩; exact ⟨f, rfl, by decide, rfl, rfl⟩
theorem Carries.defectClear (f : ReqFrame) : Carries.Statement (.defectClear f) := by rintro _ ⟨⟩; exact ⟨f, rfl, by decide, rfl, rfl⟩
theorem Carries.defectList (f : ReqFrame) : Carries.Statement (.defectList f) := by rintro _ ⟨⟩; exact ⟨f, rfl, by decide, rfl, rfl⟩
theorem Carries.starsFind (f : ReqFrame) : Carries.Statement (.starsFind f) := by rintro _ ⟨⟩; exact ⟨f, rfl, by decide, rfl, rfl⟩
theorem Carries.guideList (f : ReqFrame) : Carries.Statement (.guideList f) := by rintro _ ⟨⟩; exact ⟨f, rfl, by decide, rfl, rfl⟩
theorem Carries.guideAdd (f : ReqFrame) : Carries.Statement (.guideAdd f) := by rintro _ ⟨⟩; exact ⟨f, rfl, by decide, rfl, rfl⟩
theorem Carries.guideDrop (f : ReqFrame) : Carries.Statement (.guideDrop f) := by rintro _ ⟨⟩; exact ⟨f, rfl, by decide, rfl, rfl⟩
theorem Carries.candidateList (f : ReqFrame) : Carries.Statement (.candidateList f) := by rintro _ ⟨⟩; exact ⟨f, rfl, by decide, rfl, rfl⟩
theorem Carries.starsConfigure (f : ReqFrame) : Carries.Statement (.starsConfigure f) := by rintro _ ⟨⟩; exact ⟨f, rfl, by decide, rfl, rfl⟩
theorem Carries.trackConfigure (f : ReqFrame) : Carries.Statement (.trackConfigure f) := by rintro _ ⟨⟩; exact ⟨f, rfl, by decide, rfl, rfl⟩
theorem Carries.trackMode (f : ReqFrame) : Carries.Statement (.trackMode f) := by rintro _ ⟨⟩; exact ⟨f, rfl, by decide, rfl, rfl⟩
theorem Carries.trackSetRate (f : ReqFrame) : Carries.Statement (.trackSetRate f) := by rintro _ ⟨⟩; exact ⟨f, rfl, by decide, rfl, rfl⟩
theorem Carries.trackSetPole (f : ReqFrame) : Carries.Statement (.trackSetPole f) := by rintro _ ⟨⟩; exact ⟨f, rfl, by decide, rfl, rfl⟩
theorem Carries.trackStatus (f : ReqFrame) : Carries.Statement (.trackStatus f) := by rintro _ ⟨⟩; exact ⟨f, rfl, by decide, rfl, rfl⟩
theorem Carries.trackClearLol (f : ReqFrame) : Carries.Statement (.trackClearLol f) := by rintro _ ⟨⟩; exact ⟨f, rfl, by decide, rfl, rfl⟩
theorem Carries.regionSet (f : ReqFrame) : Carries.Statement (.regionSet f) := by rintro _ ⟨⟩; exact ⟨f, rfl, by decide, rfl, rfl⟩
theorem Carries.regionClear (f : ReqFrame) : Carries.Statement (.regionClear f) := by rintro _ ⟨⟩; exact ⟨f, rfl, by decide, rfl, rfl⟩
theorem Carries.regionList (f : ReqFrame) : Carries.Statement (.regionList f) := by rintro _ ⟨⟩; exact ⟨f, rfl, by decide, rfl, rfl⟩
theorem Carries.stackConfigure (f : ReqFrame) : Carries.Statement (.stackConfigure f) := by rintro _ ⟨⟩; exact ⟨f, rfl, by decide, rfl, rfl⟩
theorem Carries.stackStatus (f : ReqFrame) : Carries.Statement (.stackStatus f) := by rintro _ ⟨⟩; exact ⟨f, rfl, by decide, rfl, rfl⟩
theorem Carries.tileStatus (f : ReqFrame) : Carries.Statement (.tileStatus f) := by rintro _ ⟨⟩; exact ⟨f, rfl, by decide, rfl, rfl⟩
theorem Carries.finishStart (f : ReqFrame) : Carries.Statement (.finishStart f) := by rintro _ ⟨⟩; exact ⟨f, rfl, by decide, rfl, rfl⟩
theorem Carries.previewArea (f : ReqFrame) : Carries.Statement (.previewArea f) := by rintro _ ⟨⟩; exact ⟨f, rfl, by decide, rfl, rfl⟩
theorem Carries.outputRead (f : ReqFrame) (e : Ecc) : Carries.Statement (.outputRead f e) := by rintro _ ⟨⟩; exact ⟨f, rfl, by decide, rfl, rfl⟩
theorem Carries.outputRelease (f : ReqFrame) (p : Progress) : Carries.Statement (.outputRelease f p) := by rintro _ ⟨⟩; exact ⟨f, rfl, by decide, rfl, rfl⟩
theorem Carries.finishConfigure (f : ReqFrame) : Carries.Statement (.finishConfigure f) := by rintro _ ⟨⟩; exact ⟨f, rfl, by decide, rfl, rfl⟩
theorem Carries.unknownKindRequest (kind : Byte) (f : ReqFrame) : Carries.Statement (.unknownKindRequest kind f) := nofun
theorem Carries.shortRequestFrame (bytes : List Byte) : Carries.Statement (.shortRequestFrame bytes) := nofun
theorem Carries.replyReadFrame (len : Nat) : Carries.Statement (.replyReadFrame len) := nofun
theorem Carries.requestFrameWhileBusy (len : Nat) : Carries.Statement (.requestFrameWhileBusy len) := nofun
theorem Carries.sensorHeader (words : List Half) : Carries.Statement (.sensorHeader words) := nofun
theorem Carries.sensorRow (words : List Half) : Carries.Statement (.sensorRow words) := nofun
theorem Carries.sensorEndMarker : Carries.Statement (.sensorEndMarker) := nofun
theorem Carries.sensorUnknownItem (words : List Half) : Carries.Statement (.sensorUnknownItem words) := nofun
theorem Carries.clockTick : Carries.Statement (.clockTick) := nofun
theorem Carries.progressTransition : Carries.Statement (.progressTransition) := nofun
theorem Carries.napTimerExpiry : Carries.Statement (.napTimerExpiry) := nofun
theorem Carries.standbyResolve : Carries.Statement (.standbyResolve) := nofun
theorem Carries.sleepWakeComplete : Carries.Statement (.sleepWakeComplete) := nofun
theorem Carries.hardwareReset : Carries.Statement .hardwareReset := nofun
theorem Carries.hardwareResetDone : Carries.Statement (.hardwareResetDone) := nofun
theorem Carries.layerClearing : Carries.Statement (.layerClearing) := nofun
theorem Carries.engineJobSelect : Carries.Statement (.engineJobSelect) := nofun
theorem Carries.measure (e : Ecc) : Carries.Statement (.measure e) := nofun
theorem Carries.track : Carries.Statement (.track) := nofun
theorem Carries.find (e : Ecc) : Carries.Statement (.find e) := nofun
theorem Carries.stack (e : Ecc) : Carries.Statement (.stack e) := nofun
theorem Carries.darkAdd (e : Ecc) : Carries.Statement (.darkAdd e) := nofun
theorem Carries.darkFinalization (e : Ecc) : Carries.Statement (.darkFinalization e) := nofun
theorem Carries.tileStatusComputation (e : Ecc) : Carries.Statement (.tileStatusComputation e) := nofun
theorem Carries.renderTile (e : Ecc) : Carries.Statement (.renderTile e) := nofun

end Sys2Proof.Laws
end

