-- ==== Sys2Proof/Tests/Slice0.lean ====
section
/-! SUPPORT. Tests: the smoke test of WellFormed, the spec's worked examples, and one or two steps of each command on small
states. Expected values are the spec's own or worked by hand from its rules. Then, for each statement with hypotheses, a state
and operands that meet them. -/

namespace Sys2Proof.Tests

open Sys2Proof Sys2Proof.Machine

set_option Elab.async false

/-! ## Helpers -/

/-- The part after a hardware reset has completed, its RESET report fetched. -/
def ready : State := { State.reset with link := { State.reset.link with ready := true } }

/-- A request frame with tag 7 and this payload. -/
def req (payload : List Byte) : ReqFrame := ⟨7, payload, 0⟩

/-- The next state of a command. -/
def after (c : Instr) (s : State) : State :=
  match exec c s with
  | .next t => t
  | .fault _ | .refused _ => s

/-- The status of the reply in the slot. -/
def status (s : State) : Option Status :=
  match s.link.slot with
  | .full r => some r.status
  | .empty | .pending _ _ => none

/-- The payload of the reply in the slot. -/
def body (s : State) : Body :=
  match s.link.slot with
  | .full r => r.body
  | .empty | .pending _ _ => .empty

/-- `ready` in a session state. -/
def inSession (st : SessionState) : State := { ready with session := { ready.session with state := st } }

/-- `ready` in a power state. -/
def inPower (p : PowerState) : State := { ready with power := { ready.power with state := p } }

/-- A light sub-frame at a stage, of a small format. -/
def frame (st : Stage) : SubFrame :=
  { newRecord ⟨true, 41, .light, 64, 64, 30000, 100⟩ .light 0 5000 1230500 none with stage := st }

/-- INTEGRATING at the format 64 × 64 with sub-frame `f` in buffer 0 as the engine's job. -/
def working (f : SubFrame) : State :=
  { inSession .integrating with
    format := ⟨64, 64⟩
    session := { Session.cleared with state := .integrating, tRef := some 5000, accepted := 1 }
    staging := [some f, none, none]
    engine := { Engine.afterReset with job := some (.light 0) }
    stacker := { ready.stacker with statusDefined := true } }

/-- No memory error. -/
def clean : Ecc := ⟨0, []⟩

/-! ## WellFormed refuses each ill-formed term -/

theorem test_wf_payload_not_words : (Instr.ping ⟨0, [1, 2, 3], 0⟩).wf = false := by decide +kernel
theorem test_wf_payload_too_long : (Instr.ping ⟨0, List.replicate 260 0, 0⟩).wf = false := by decide +kernel
theorem test_wf_kind_in_table : (Instr.unknownKindRequest 0x01 ⟨0, [], 0⟩).wf = false := by decide +kernel
theorem test_wf_short_frame_whole : (Instr.shortRequestFrame [0xA5, 1, 0, 0, 0]).wf = false := by decide +kernel
theorem test_wf_short_frame_other_start : (Instr.shortRequestFrame [0x00, 1]).wf = false := by decide +kernel
theorem test_wf_busy_frame_empty : (Instr.requestFrameWhileBusy 0).wf = false := by decide +kernel
theorem test_wf_known_item : (Instr.sensorUnknownItem [0xC1A1, 0]).wf = false := by decide +kernel
theorem test_wf_accepts : (Instr.powerNap ⟨0, [100, 0, 0, 0], 3⟩).wf = true ∧ (Instr.sensorUnknownItem [5]).wf = true ∧
    (Instr.shortRequestFrame [0xA5, 9]).wf = true ∧ (Instr.unknownKindRequest 0x7F ⟨0, [], 0⟩).wf = true := by decide +kernel

/-! ## Frames and items (R188, R189, R202, R203, R205) -/

theorem test_decode_request : decodeFrame true [0xA5, 0x0B, 0x07, 0x01, 0x00, 0xD0, 0x07, 0x00, 0x00] =
    .powerNap ⟨0x07, [0xD0, 0x07, 0x00, 0x00], 0⟩ := by decide +kernel
theorem test_decode_trailing : decodeFrame true [0xA5, 0x34, 0x02, 0x00, 0x00, 0xEE] = .candidateList ⟨0x02, [], 1⟩ := by decide +kernel
theorem test_decode_unknown : decodeFrame true [0xA5, 0x7F, 0x02, 0x00, 0x00] = .unknownKindRequest 0x7F ⟨0x02, [], 0⟩ := by
  decide +kernel
theorem test_decode_length_65 : decodeFrame true [0xA5, 0x01, 0x02, 0x41, 0x00] =
    .shortRequestFrame [0xA5, 0x01, 0x02, 0x41, 0x00] := by decide +kernel
theorem test_decode_busy : decodeFrame false [0xA5, 0x01, 0x02, 0x00, 0x00] = .requestFrameWhileBusy 5 := by decide +kernel
theorem test_decode_read : decodeFrame true [0x00, 0x00] = .replyReadFrame 2 := by decide +kernel
theorem test_decode_header : decodeItem [0xC1A0, 7, 1, 9600, 6400, 30000, 0, 0xFFCC] =
    .sensorHeader [7, 1, 9600, 6400, 30000, 0, 0xFFCC] := by decide +kernel
theorem test_decode_end : decodeItem [0xC1AF] = .sensorEndMarker := by decide +kernel
theorem test_table_word : decodeTableWord 8 0x01 = none := rfl

/-! ## Arithmetic (R6, R14, R16, R17): section 1.8's prediction and section 1.10's rotation -/

theorem test_rounding : floorQ (-7) 2 = -4 ∧ towardZero (-7) 2 = -3 ∧ nearestAway (-7) 2 = -4 ∧ nearestAway 5 (-2) = -3 ∧
    nearestAway 7 3 = 2 := by decide +kernel
/-- The tracker of section 6.9's worked sub-frame. -/
def worked : Tracker :=
  { Tracker.afterReset .auto TrackSettings.default SessionConfig.default with
    a := 87500000, rem := 400, tLast := 1200000, rate := 72930, poleX := 40000, poleY := -20000, state := .locked
    lockRun := 8, history := List.replicate 16 72930, lolCount := 1, largestI := some 41, smallestI := some (-37)
    largestP := some 3125, fewestValid := some 4 }
theorem test_predict : worked.predict 1230500 = (89724365, 400) := by decide +kernel
theorem test_pair : sinScaled 89725115 = 96212393 ∧ cosScaled 89725115 = 1069422592 := by decide +kernel
theorem test_pair_zero : sinScaled 0 = 0 ∧ cosScaled 0 = 1073741824 := by decide +kernel
theorem test_rotate : worked.rotate 96212393 1069422592 (40008, 16008) = (36781, 15864) := by decide +kernel
theorem test_source_pixel : worked.sourcePixel 96212393 1069422592 5001 2000 = (4597, 1982) := by decide +kernel

/-! ## Calibration (R72, R73): section 4's worked selection -/

theorem test_choose_between : chooseDark [(0, -52), (1, 38)] 11 = .two 0 1 63 90 := by decide +kernel
theorem test_choose_ends : chooseDark [(0, -52), (1, 38)] (-80) = .one 0 ∧ chooseDark [(0, -52), (1, 38)] (-52) = .one 0 ∧
    chooseDark [(0, -52), (1, 38)] 38 = .one 1 ∧ chooseDark [(0, -52), (1, 38)] 91 = .one 1 ∧ chooseDark [] 5 = .none := by
  decide +kernel
theorem test_eligible : eligibleSlots SessionConfig.default
    [.ready ⟨-52, 30000, 5, .nil⟩, .ready ⟨38, 30000, 5, .nil⟩, .ready ⟨10, 20000, 5, .nil⟩, .damaged ⟨120, 30000, 5, .nil⟩] =
    [(0, -52), (1, 38)] := by decide +kernel
theorem test_dark_value :
    Calibration.darkValue ⟨[.ready ⟨-52, 30000, 5, Plane.nil.set 0 0 412⟩, .ready ⟨38, 30000, 5, Plane.nil.set 0 0 596⟩],
      none, 0, .nil, []⟩ (.two 0 1 63 90) 0 = 541 ∧ calibrated 1530 541 = 5579 := by decide +kernel

/-! ## Stars (R82 to R84, R86, R95): the worked measurement and admission of chapter 5 -/

/-- The worked window: the border sums to 280,140 over 56 cells. -/
def workedWindow : List CellRead :=
  (List.range 225).map fun k =>
    ⟨some (if k = 112 then 65402 else if k = 113 ∨ k = 97 then 25402
      else if k % 15 = 0 ∧ k < 15 * 14 ∧ 0 < k ∧ k / 15 % 2 = 1 then 5006 else 5002), [4200, 4200, 4200, 4200]⟩
theorem test_window : measureWindow StarSettings.default SessionConfig.default 2500 1875 workedWindow =
    ⟨.found, some 5002, 100000, some (40011, 30005)⟩ := by decide +kernel
theorem test_window_saturated : (measureWindow StarSettings.default { SessionConfig.default with whiteLevel := 4200 } 2500 1875
    workedWindow).verdict = .saturated := by decide +kernel
/-- The candidate list of the worked admission. -/
def workedList : StarUnit :=
  { ready.stars with candidates := [⟨12000, 8000, 310000, 1, 0⟩, ⟨30400, 5200, 150000, 1, 1⟩, ⟨51000, 22000, 90000, 1, 2⟩,
      ⟨20000, 9000, 60000, 1, 3⟩], nextAdmission := 4 }
theorem test_admission : ((offerCandidate ⟨51100, 22100, 90000, 2, 0⟩ (offerCandidate ⟨40000, 40000, 90000, 2, 0⟩
    (offerCandidate ⟨20100, 9020, 75000, 2, 0⟩ (offerCandidate ⟨12060, 8050, 200000, 2, 0⟩ workedList)))).candidates.map
      fun c => (c.refX, c.flux)) =
    [(12000, 310000), (30400, 150000), (51000, 90000), (40000, 90000), (20100, 75000)] := by decide +kernel

/-! ## Tracker (R109 to R121): the worked phase error and sub-frame of chapter 6 -/

theorem test_phase : phaseError 80000 3 [(0, 12000), (1, -3000), (3, 5000), (4, 90000), (6, 7000)] =
    ⟨[0, 1, 3, 6], 4, some 6000⟩ := by decide +kernel
theorem test_phase_insufficient : phaseError 80000 3 [(1, -3000), (3, 5000), (4, 90000)] = ⟨[1, 3], 2, none⟩ := by decide +kernel
theorem test_track_step : (worked.trackStep 89724365 4 (some 6000)).2.1 = 89725115 ∧
    (worked.trackStep 89724365 4 (some 6000)).1.rate = 72953 ∧
    (worked.trackStep 89724365 4 (some 6000)).1.history = List.replicate 15 72930 ++ [72953] ∧
    (worked.trackStep 89724365 4 (some 6000)).1.state = .locked ∧
    (worked.trackStep 89724365 4 (some 6000)).1.largestI = some 41 := by decide +kernel

/-! ## Regions (R129, R132): the worked resolution and cut of chapter 7 -/

/-- The list of the worked resolution. -/
def workedRegions : List (Option Region) :=
  [none, some ⟨120, 0, 30, 20, .exclude⟩, some ⟨0, 70, 150, 30, .ground⟩, none, none, some ⟨40, 62, 30, 8, .horizon 20 45⟩,
    none, none, none, some ⟨0, 60, 150, 10, .horizon 32 32⟩]
theorem test_classes : tileClassAt workedRegions 10 10 = .sky ∧ tileClassAt workedRegions 130 5 = .exclude ∧
    tileClassAt workedRegions 50 61 = .horizon 32 32 ∧ tileClassAt workedRegions 50 65 = .horizon 20 45 := by decide +kernel
theorem test_cut : cutHeight 20 45 10 = 23 ∧ cutHeight 20 45 40 = 35 ∧ cutHeight 20 45 63 = 45 ∧ cutHeight 50 10 40 = 24 := by
  decide +kernel

/-! ## Stacking (R145, R149 to R151): the worked rejection, sky pass and gate of chapter 8 -/

theorem test_reject : rejects StackSettings.default ⟨60000, 12, false⟩ 9800 = true ∧
    rejects StackSettings.default ⟨60000, 12, false⟩ 5300 = false ∧
    rejects StackSettings.default ⟨60000, 12, false⟩ 1000 = false ∧
    rejects { StackSettings.default with rejectMode := .both } ⟨60000, 12, false⟩ 1000 = true ∧
    rejects StackSettings.default ⟨15000, 3, false⟩ 9800 = false := by decide +kernel
theorem test_contribute : contribute SessionConfig.default StackSettings.default 16100 0 ⟨61200, 12, false⟩ = .clipped ∧
    contribute SessionConfig.default StackSettings.default 1375 5300 ⟨60000, 12, false⟩ = .added ⟨65300, 13, false⟩ := by decide +kernel
theorem test_gate : median [5120, 5002, 5410, 5300] = some 5210 ∧ updateBRef (some 5110) (some 5120) = some 5110 ∧
    skyDecision .permitted 400 (some 5560) (some 5110) = .gate ∧ skyDecision .permitted 400 (some 5480) (some 5110) = .none ∧
    skyDecision .notLocked 400 (some 5020) (some 5020) = .notLocked ∧ skyDecision .permitted 400 none (some 5110) = .none := by
  decide +kernel

/-! ## One step of each command: the link -/

theorem test_ping : status (after (.ping (req [])) ready) = some .ok ∧ body (after (.ping (req [])) ready) = .ping := by
  decide +kernel
theorem test_ping_asleep : status (after (.ping (req [])) (inPower .sleep)) = some .asleep := by decide +kernel
theorem test_status_get_clears : (after (.statusGet (req []))
    { ready with port := { ready.port with dropped := some (9, .paused) }, link := { ready.link with overrun := true } }).port.dropped =
    none ∧ status (after (.statusGet (req [])) (inPower .sleep)) = some .ok := by decide +kernel
theorem test_report_fetch : (after (.reportFetch (req [1, 0, 0, 0]))
    { ready with link := { ready.link with reports := [⟨5, .reset .soft⟩, ⟨6, .reset .hardware⟩] } }).link.reports =
    [⟨6, .reset .hardware⟩] ∧ status (after (.reportFetch (req [9, 0, 0, 0])) ready) = some .badValue := by decide +kernel
theorem test_system_reset_keeps : let s := { inSession .integrating with calib := { ready.calib with defects := [5] } }
    let t := after (.systemReset (req []) ⟨0, clean⟩) s
    t.calib.defects = [5] ∧ t.session = Session.cleared ∧ t.link.reports = [⟨0, .reset .soft⟩] := by decide +kernel
theorem test_unknown_kind : status (after (.unknownKindRequest 0x7F (req [])) ready) = some .badKind := by decide +kernel
theorem test_short_frame : (after (.shortRequestFrame [0xA5, 0x10]) ready).link.slot =
    .full ⟨0x90, 0, .badLength, .empty⟩ := by decide +kernel
theorem test_reply_read : (after (.replyReadFrame 3) (after (.ping (req [])) ready)).link.shiftOut = [0x5A, 0x81, 7] := by
  decide +kernel
theorem test_busy_frame : (after (.requestFrameWhileBusy 5) State.reset).link.overrun = true ∧
    after (.requestFrameWhileBusy 5) ready = ready := by decide +kernel
theorem test_not_ready_before_done : (after (.ping (req [])) State.reset).link.slot = .empty ∧
    (after (.ping (req [])) State.reset).link.overrun = true := by decide +kernel

/-! ## Power and time -/

theorem test_standby : (after (.powerStandby (req [])) ready).power.state = .standby ∧
    status (after (.powerStandby (req [])) (working (frame .measure))) = some .started := by decide +kernel
theorem test_sleep : (after (.powerSleep (req [])) ready).power.state = .sleep ∧
    status (after (.powerSleep (req [])) (inSession .armed)) = some .wrongState := by decide +kernel
/-- R184: no pending standby is set in SLEEP. -/
theorem test_sleep_pending : let t := after (.powerSleep (req [])) { ready with power := ⟨.run, true, 0, 0, false⟩ }
    t.power.pendingStandby = false ∧ t.link.reports.map Stamped.report =
      [.power .standby .request, .power .run .link, .power .sleep .request] := by decide +kernel
theorem test_wake : let t := after (.powerRun (req [1, 0, 0, 0, 0x10, 0x27, 0, 0])) (inPower .sleep)
    t.time.clock = 10000 ∧ t.rdy = false ∧ (after .sleepWakeComplete t).power.state = .run ∧
    (after .sleepWakeComplete t).link.reports = [⟨10000, .power .run .request⟩] := by decide +kernel
theorem test_nap : (after (.powerNap (req [50, 0, 0, 0])) ready).power.napDelay = 100 ∧
    (after (.powerNap (req [0, 0, 0, 1])) ready).power.napDelay = 600000 := by decide +kernel
theorem test_tick : (after .clockTick ready).time.clock = 1 ∧ (after .clockTick (inPower .sleep)).time.clock = 0 := by
  decide +kernel
/-- R9: with progress bit 15 the first transition is at 32,768. -/
theorem test_tick_transition : (after .clockTick { ready with time := ⟨32767, none⟩ }).time = ⟨32768, some 32768⟩ := by
  decide +kernel
theorem test_progress : (after .progressTransition { working (frame .measure) with time := ⟨40000, some 32768⟩ }).link.reports =
    [⟨40000, .progress 27768 1 0 0 0 0 .freerun⟩] := by decide +kernel
theorem test_nap_expiry : (after .napTimerExpiry { ready with power := ⟨.run, false, 100, 100, false⟩ }).power.state = .standby ∧
    (after .napTimerExpiry { ready with power := ⟨.run, false, 100, 99, false⟩ }).power.state = .run := by decide +kernel
theorem test_standby_resolve : (after .standbyResolve { ready with power := ⟨.run, true, 0, 0, false⟩ }).power =
    ⟨.standby, false, 0, 0, false⟩ := by decide +kernel
theorem test_hardware_reset : after .hardwareReset { ready with tracker := worked } = { State.reset with freeSeed := 1 } := by
  decide +kernel
/-- R26, R141: a reset during layer clearing leaves the records already cleared, from sky address 0, and no others. -/
theorem test_reset_clearing : let s := { inSession .opening with
      engine := { Engine.afterReset with job := some .clearing }
      stacker := { ready.stacker with sky := (Plane.nil.set Acc.zero 0 ⟨5, 1, false⟩).set Acc.zero 1 ⟨6, 1, false⟩ } }
    let t := after (.systemReset (req []) ⟨1, clean⟩) s
    t.stacker.record .sky 0 = ⟨0, 0, false⟩ ∧ t.stacker.record .sky 1 = ⟨6, 1, false⟩ := by decide +kernel
theorem test_hardware_reset_done : (after .hardwareResetDone State.reset).rdy = true ∧
    (after .hardwareResetDone State.reset).link.reports = [⟨0, .reset .hardware⟩] := by decide +kernel

/-! ## Sessions -/

/-- The example of SENSOR.FORMAT: 6,016 × 4,032 is taken, 6,016 × 4,000 refused. -/
theorem test_format : (after (.sensorFormat (req (leBytes 4 6016 ++ leBytes 4 4032))) ready).format = ⟨6016, 4032⟩ ∧
    status (after (.sensorFormat (req (leBytes 4 6016 ++ leBytes 4 4000))) ready) = some .badValue := by decide +kernel
/-- A configuration payload with this exposure and progress bit, the other fields at their defaults. -/
def configBytes (exposure bit : Nat) : List Byte :=
  num4 exposure ++ num4 0 ++ num4 16000 ++ signed4 72921 ++ signed4 38400 ++ signed4 (-20000) ++ num4 16000 ++
    num4 28800000 ++ num4 bit
theorem test_configure : (after (.sessionConfigure (req (configBytes 20000 9))) ready).config =
    { SessionConfig.default with exposureMs := 20000, progressBit := 10 } ∧
    status (after (.sessionConfigure (req (configBytes 999 15))) ready) = some .badValue := by decide +kernel
theorem test_open : (after (.sessionOpen (req [])) ready).session.state = .opening ∧
    (after (.sessionOpen (req [])) ready).engine.job = some .clearing ∧
    status (after (.sessionOpen (req [])) ready) = some .started := by decide +kernel
theorem test_clearing : (after .layerClearing (after (.sessionOpen (req [])) ready)).session.state = .armed := by decide +kernel
theorem test_pause : (after (.sessionPause (req [])) (inSession .integrating)).session.state = .paused ∧
    status (after (.sessionPause (req [])) (inSession .armed)) = some .wrongState := by decide +kernel
/-- The example of SESSION.RESUME: no sub-frame in processing, so LOCKED falls back to ACQUIRE at once. -/
theorem test_resume : let s := { inSession .paused with tracker := worked, session := ⟨.paused, some 5000, none, 40, 40, 40, 40, 0, none⟩ }
    (after (.sessionResume (req [])) s).session.state = .integrating ∧
    (after (.sessionResume (req [])) s).tracker.state = .acquire := by decide +kernel
theorem test_close : (after (.sessionClose (req [])) (working (frame .stack))).session.state = .closing ∧
    (after (.sessionClose (req [])) (inSession .armed)).session.state = .closed := by decide +kernel
theorem test_discard : let t := after (.sessionDiscard (req []) ⟨0, clean⟩) (working (frame .measure))
    t.session.state = .idle ∧ t.staging = [none, none, none] ∧ t.engine.job = none := by decide +kernel
/-- R26: clearing reads no word, so that one abandoned counts no corrected error. -/
theorem test_discard_clearing : let t := after (.sessionDiscard (req []) ⟨0, ⟨3, []⟩⟩) (after (.sessionOpen (req [])) ready)
    t.eccCorrected = 0 ∧ t.engine.job = none ∧ t.session.state = .idle := by decide +kernel
theorem test_info : body (after (.sessionInfo (req [])) { working (frame .stack) with engine := Engine.afterReset }) =
    .sessionInfo ⟨.integrating, some 5000, none, 1, 0, 0, 0, 0, none⟩ 1 := by decide +kernel

/-! ## The sensor port -/

/-- A light header of the default format and exposure, sequence number 41, temperature −52. -/
def lightHeader : Instr := .sensorHeader [41, 1, 9600, 6400, 30000, 0, 0xFFCC]
theorem test_header_reference : let t := after lightHeader { inSession .armed with time := ⟨45000, none⟩ }
    t.session.state = .integrating ∧ t.session.tRef = some 30000 ∧ t.session.accepted = 1 ∧
    t.port.state = .capturing ⟨0, 0, none⟩ ∧ (t.buffer 0).map SubFrame.temperature = some (-52) := by decide +kernel
theorem test_header_dropped : (after lightHeader (inSession .paused)).port.dropped = some (41, .paused) ∧
    (after lightHeader ready).port.dropped = some (41, .noConsumer) := by decide +kernel
/-- INTEGRATING and capturing sub-frame 41 into buffer 0, `expected` rows of 64 taken. -/
def capturing (expected : Nat) : State :=
  { working (frame .arriving) with engine := Engine.afterReset
                                   port := ⟨.capturing ⟨0, expected, none⟩, none, 0, 1⟩ }
theorem test_row : let t := after (.sensorRow (2 :: List.replicate 64 9)) (capturing 2)
    t.port.state = .capturing ⟨0, 3, none⟩ ∧ ((t.buffer 0).map fun f => f.samples.get 0 191) = some 9 ∧
    ((t.buffer 0).map fun f => f.samples.get 0 192) = some 0 := by decide +kernel
theorem test_row_bad : (after (.sensorRow (3 :: List.replicate 64 9)) (capturing 2)).port.state =
    .capturing ⟨0, 2, some .rowOrder⟩ ∧ (after (.sensorRow (2 :: List.replicate 63 9)) (capturing 2)).port.state =
    .capturing ⟨0, 2, some .rowLength⟩ := by decide +kernel
theorem test_end : let t := after .sensorEndMarker (capturing 64)
    ((t.buffer 0).map SubFrame.stage) = some .staged ∧ t.port.state = .waiting := by decide +kernel
theorem test_end_short : (after .sensorEndMarker (capturing 63)).port.dropped = some (41, .malformed) ∧
    (after .sensorEndMarker (capturing 63)).link.reports = [⟨0, .subframeDropped 41 .malformed (some .short)⟩] := by decide +kernel
theorem test_unknown_item : after (.sensorUnknownItem [5, 6]) (capturing 2) = capturing 2 := by decide +kernel

/-! ## Dark library and defect list -/

/-- `ready` with a build in slot 1: frames added and outstanding. -/
def buildingState (slot : DarkSlot) (added outstanding : Nat) (accepting : Bool) : State :=
  { ready with calib := ⟨[.free, slot, .free, .free], some ⟨1, 3, accepting, some 30000, added, outstanding, -100, added == 0, 0⟩, 3,
      .nil, []⟩ }
theorem test_dark_build : let t := after (.darkBuild (req (num4 2 ++ num4 3000))) ready
    t.calib.slot 0 = .building ∧ t.calib.build = some ⟨0, 1, true, none, 0, 0, 0, true, 3000⟩ ∧
    status (after (.darkBuild (req (num4 1 ++ [4, 0, 0, 0]))) ready) = some .badValue := by decide +kernel
theorem test_dark_end : (after (.darkEnd (req [])) (buildingState .building 5 0 true)).calib.slot 1 = .finalizing ∧
    (after (.darkEnd (req [])) (buildingState .building 0 0 true)).link.reports = [⟨0, .dark 1 .empty 0 0⟩] := by decide +kernel
theorem test_dark_abort : let t := after (.darkAbort (req []) ⟨0, clean⟩) (buildingState .building 5 0 true)
    t.calib.slot 1 = .free ∧ t.calib.build = none ∧ t.link.reports = [⟨0, .dark 1 .aborted 0 0⟩] := by decide +kernel
theorem test_dark_free : status (after (.darkFree (req [1])) (buildingState .building 5 0 true)) = some .busy ∧
    (after (.darkFree (req [2])) { ready with calib := { ready.calib with
      slots := [.free, .free, .ready ⟨10, 30000, 5, .nil⟩, .free] } }).calib.slot 2 = .free := by decide +kernel
theorem test_dark_list : body (after (.darkList (req [])) (buildingState (.ready ⟨38, 30000, 12, .nil⟩) 0 0 true)) =
    .darkList [.free, .held false 38 30000 12 false, .free, .free] := by decide +kernel
/-- A defect payload of pixel positions. -/
def pixels (ps : List (Nat × Nat)) : List Byte := ps.flatMap fun p => leBytes 2 p.1 ++ leBytes 2 p.2
theorem test_defect_add : let s := { ready with calib := { ready.calib with defects := [356404] } }
    let t := after (.defectAdd (req (pixels [(8000, 10), (1204, 37), (5, 0), (5, 0)]))) s
    t.calib.defects = [5, 104000, 356404] ∧ body t = .defectAdd 2 2 0 := by decide +kernel
theorem test_defect_remove : let s := { ready with calib := { ready.calib with defects := [5, 104000, 356404] } }
    let t := after (.defectRemove (req (pixels [(8000, 10), (0, 0)]))) s
    t.calib.defects = [5, 356404] ∧ body t = .defectRemove 1 1 := by decide +kernel
theorem test_defect_clear : body (after (.defectClear (req [])) { ready with calib := { ready.calib with defects := [5, 6] } }) =
    .defectClear 2 ∧ status (after (.defectClear (req [])) (inSession .armed)) = some .wrongState := by decide +kernel
theorem test_defect_list : body (after (.defectList (req (num4 1 ++ num4 1)))
    { ready with calib := { ready.calib with defects := [5, 104000, 356404] } }) = .defectList 3 1 [(8000, 10)] := by decide +kernel
/-- DARK_ADD of a frame of 4 × 2 whose pixel 7 is 1,530, over a sum of 1,000. -/
def adding : State :=
  { buildingState .building 5 1 true with
    format := ⟨4, 2⟩
    staging := [some { frame .darkAdd with kind := .dark, build := some (1, 3), samples := Plane.nil.set 0 7 1530 }, none, none]
    engine := { Engine.afterReset with job := some (.dark 0) } }
theorem test_dark_add : let s := { adding with calib := { adding.calib with scratch := Plane.nil.set 0 7 1000 } }
    let t := after (.darkAdd clean) s
    t.calib.scratch.get 0 7 = 2530 ∧ t.calib.build = some ⟨1, 3, true, some 30000, 6, 0, 0, false, 0⟩ ∧
    t.staging = [none, none, none] := by decide +kernel
/-- The mean of 5 frames with sum 7,653 is 1,530.6 DN: 6,122.4 qDN, rounded 6,122; the mean temperature of −101/5 is −20. -/
theorem test_finalize_values : planeValueOf 7653 5 = 6122 ∧
    (Build.dark ⟨1, 3, false, some 30000, 5, 0, -101, false, 0⟩ .nil).temperature = -20 := by decide +kernel
theorem test_finalization : let s := { buildingState .finalizing 5 0 false with
      format := ⟨0, 0⟩, engine := { Engine.afterReset with job := some .finalization } }
    let t := after (.darkFinalization clean) s
    t.calib.slot 1 = .ready ⟨-20, 30000, 5, .nil⟩ ∧ t.link.reports = [⟨0, .dark 1 .ready 0 0⟩] ∧ t.calib.build = none := by
  decide +kernel

/-! ## Stars, tracker, regions, stack settings -/

theorem test_stars_find : (after (.starsFind (req [])) (inSession .armed)).stars.armed = true ∧
    status (after (.starsFind (req [])) ready) = some .wrongState := by decide +kernel
theorem test_guide_list : body (after (.guideList (req [])) ready) = .guides (List.replicate 12 none) := by decide +kernel
/-- Of the example of chapter 5's slot 0. -/
def star : Guide := ⟨.active, 40008, 30000, 212000, some (40011, 30005), some 20000, some 5002, 0, 3, some .found⟩
theorem test_guide_add : let s := { inSession .armed with tracker := worked }
    (after (.guideAdd (req (signed4 0 ++ signed4 30000))) s).link.reports = [⟨0, .guide none .refused (some .window)⟩] ∧
    (after (.guideAdd (req (signed4 40008 ++ signed4 (-1)))) s).link.slot = .full ⟨0xB2, 7, .badValue, .empty⟩ := by
  decide +kernel
theorem test_admit_guide : (admitGuide 3 (40008, 30000) 0 ready).stars.guide 3 =
    some ⟨.probation, 40008, 30000, 0, none, none, none, 0, 0, none⟩ := by decide +kernel
theorem test_guide_drop : let s := { inSession .armed with stars := { ready.stars with guides := [some star] ++ List.replicate 11 none } }
    (after (.guideDrop (req [0])) s).stars.guide 0 = none ∧
    (after (.guideDrop (req [0])) s).link.reports = [⟨0, .guide (some 0) .retired (some .dropped)⟩] := by decide +kernel
theorem test_candidate_list : body (after (.candidateList (req [])) { ready with stars := workedList }) =
    .candidates workedList.candidates := by decide +kernel
/-- During FIND a list is drawn: OK, and one free value spent. -/
theorem test_candidate_list_find : let t := after (.candidateList (req [])) (working (frame .find))
    status t = some .ok ∧ t.freeSeed = 1 := by decide +kernel
/-- That list before a refill, and between its first admission and its second (R96, R102). -/
theorem test_list_during : let s := { working (frame .find) with format := Format.largest, regions := [], stars := workedList }
    (glimpse ⟨1, clean⟩ s).stars.candidates = workedList.candidates ∧
    (glimpse ⟨2, clean⟩ s).stars.candidates = workedList.candidates.drop 1 := by decide +kernel
/-- The totals that STACK.STATUS can show in STACK: before step 1 and after it (R152, R158). -/
theorem test_totals_during : let s := working (frame .stack)
    (glimpse ⟨0, clean⟩ s).stacker.totals = Totals.zero ∧
    (glimpse ⟨1, clean⟩ s).stacker.totals = { Totals.zero with skipNotLocked := 1 } := by decide +kernel
/-- After each pass, with the pass counts of SESSION.INFO; at a format without pixels each pass ends at once. -/
theorem test_passes_during : let s := { working { frame .stack with permission := .permitted } with format := ⟨0, 0⟩ }
    (glimpse ⟨1, clean⟩ s).stacker.totals = { Totals.zero with groundPasses := 1 } ∧
    (glimpse ⟨1, clean⟩ s).session.groundStacked = 1 ∧ (glimpse ⟨1, clean⟩ s).session.skyStacked = 0 ∧
    (glimpse ⟨2, clean⟩ s).stacker.totals = { Totals.zero with groundPasses := 1, skyPasses := 1 } := by decide +kernel
/-- STACK.STATUS in STACK: OK, and one free value spent. -/
theorem test_stack_status_stack : let t := after (.stackStatus (req [])) (working (frame .stack))
    status t = some .ok ∧ t.freeSeed = 1 := by decide +kernel
theorem test_stars_configure : (after (.starsConfigure (req (num4 2 ++ num4 0))) ready).stars.settings = ⟨400, 1, 2000⟩ ∧
    (after (.starsConfigure (req (num4 2 ++ num4 10000))) (working (frame .measure))).engine.pendStars =
      ⟨none, some 10000, none⟩ := by decide +kernel
/-- The example of TRACK.CONFIGURE: lock_span 20 with lock_run 8 falls back to ACQUIRE; refill_level 1 is raised. -/
theorem test_track_configure : let t := after (.trackConfigure (req (num4 640 ++ num4 20 ++ num4 1))) { ready with tracker := worked }
    t.tracker.settings.lockSpan = 20 ∧ t.tracker.settings.refillLevel = 3 ∧ t.tracker.state = .acquire ∧
    t.link.reports = [⟨0, .track .locked .acquire .span⟩] := by decide +kernel
theorem test_track_mode : let t := after (.trackMode (req [2])) { ready with tracker := worked }
    t.tracker.state = .holdover ∧ t.tracker.rate = 72930 ∧ status (after (.trackMode (req [4])) ready) = some .badValue := by
  decide +kernel
theorem test_track_set_rate : let t := after (.trackSetRate (req (signed4 80000))) ready
    t.tracker.rate = 74000 ∧ t.tracker.settings.manualRate = 74000 ∧
    status (after (.trackSetRate (req (signed4 0))) ready) = some .badValue := by decide +kernel
theorem test_track_set_pole : (after (.trackSetPole (req (signed4 40000 ++ signed4 (-20000)))) (inSession .armed)).tracker.poleX =
    40000 ∧ status (after (.trackSetPole (req (signed4 4000001 ++ signed4 0))) (inSession .armed)) = some .badValue := by
  decide +kernel
theorem test_track_status : body (after (.trackStatus (req [])) { ready with tracker := worked }) = .tracker worked := by
  decide +kernel
/-- The example of TRACK.CLEAR_LOL: LOL_LIMIT stays set until the next read. -/
theorem test_track_clear_lol : let s := { ready with tracker := { worked with lolCount := 4, lolLimit := true } }
    let t := after (.trackClearLol (req (num4 0))) s
    t.tracker.lolCount = 0 ∧ t.tracker.lolLimit = true ∧ (after (.trackStatus (req [])) t).tracker.lolLimit = false := by
  decide +kernel
/-- The example of REGION.SET: (3, 140, 55, 20, 15, GROUND) is clipped to 10 tiles across. -/
theorem test_region_set :
    (after (.regionSet (req (num4 0 ++ num4 3 ++ leBytes 2 140 ++ leBytes 2 55 ++ leBytes 2 20 ++ leBytes 2 15 ++ [1, 0, 0, 0])))
      ready).regions[3]? = some (some ⟨140, 55, 10, 15, .ground⟩) ∧
    status (after (.regionSet (req (num4 0 ++ num4 3 ++ leBytes 2 150 ++ leBytes 2 55 ++ leBytes 2 20 ++ leBytes 2 15 ++
      [1, 0, 0, 0]))) ready) = some .badValue := by decide +kernel
theorem test_region_clear : let s := { ready with regions := workedRegions }
    (after (.regionClear (req (num4 5))) s).regions[5]? = some none ∧
    (after (.regionClear (req (num4 0xFFFFFFFF))) s).regions = List.replicate 10 none ∧
    (after (.regionClear (req (num4 5))) { working (frame .find) with regions := workedRegions }).engine.edits =
      [.regionClear (some 5)] := by decide +kernel
theorem test_region_list : body (after (.regionList (req [])) { ready with format := ⟨128, 64⟩, regions := [some ⟨1, 0, 1, 1, .ground⟩] }) =
    .regions [(0, ⟨1, 0, 1, 1, .ground⟩)] 1 1 0 0 := by decide +kernel
theorem test_stack_configure : (after (.stackConfigure (req (num4 35 ++ [2] ++ num4 200 ++ num4 400))) ready).stacker.settings =
    { StackSettings.default with rejectMode := .both, kq := 160, gateMargin := 400 } ∧
    status (after (.stackConfigure (req (num4 1 ++ [3, 0, 0, 0]))) ready) = some .badValue := by decide +kernel
theorem test_stack_status : body (after (.stackStatus (req [])) ready) = .totals Totals.zero := by decide +kernel

/-! ## The engine -/

theorem test_job_select : let s := { working { frame .staged with reference := true } with
      engine := { Engine.afterReset with edits := [.setPole 1 2] } }
    let t := after .engineJobSelect s
    t.engine.job = some (.light 0) ∧ ((t.buffer 0).map SubFrame.stage) = some .measure ∧ t.tracker.poleX = 1 ∧
    t.engine.edits = [] := by decide +kernel
theorem test_measure : ((after (.measure clean) (working (frame .measure))).buffer 0).map SubFrame.stage = some .track ∧
    (after (.measure clean) { working (frame .measure) with
      stars := { ready.stars with guides := [some star] ++ List.replicate 11 none } }).link.reports =
      [⟨0, .guide (some 0) .retired (some .geometry)⟩] := by decide +kernel
/-- The worked sub-frame of section 6.9, its five guides' errors handed over. -/
def tracking : State :=
  let found (slot : Nat) (e : Int) : Measured := ⟨slot, true, ⟨.found, some 5002, 100000, some (40011, 30005)⟩, some e⟩
  { working { frame .track with
      aPred := 89724365, remPred := 400
      measured := [found 0 12000, found 1 (-3000), found 3 5000, found 4 90000, found 6 7000] } with
    tracker := worked
    stars := { ready.stars with guides := [some star, some star, none, some star, some star, none, some star] } }
theorem test_track : let t := after .track tracking
    t.tracker.a = 89725115 ∧ t.tracker.rem = 400 ∧ t.tracker.tLast = 1230500 ∧ t.tracker.rate = 72953 ∧
    ((t.stars.guide 4).map fun g => (g.outcome, g.missRun)) = some (some .outlier, 1) ∧
    ((t.buffer 0).map SubFrame.finS) = some 96212393 ∧ t.link.reports = [] := by decide +kernel
theorem test_track_reference : let t := after .track (working { frame .track with reference := true })
    t.tracker.a = 0 ∧ t.tracker.tLast = 1230500 ∧ ((t.buffer 0).map SubFrame.permission) = some .permitted := by decide +kernel
/-- An armed scan of a frame of no cells clears the arming; a candidate whose window is not placeable stays. -/
theorem test_find : let s := { working (frame .find) with
      format := ⟨0, 0⟩, tracker := worked
      stars := { ready.stars with candidates := [⟨40008, 30000, 100000, 40, 0⟩], armed := true } }
    let t := after (.find clean) s
    t.stars.armed = false ∧ t.stars.candidates.length = 1 ∧ t.stars.guide 0 = none ∧
    ((t.buffer 0).map SubFrame.stage) = some .stack := by decide +kernel
/-- STACK and RETIRE of a sub-frame of no pixels: the passes complete and count. -/
theorem test_stack : let t := after (.stack clean) { working { frame .stack with permission := .permitted } with format := ⟨0, 0⟩ }
    t.staging = [none, none, none] ∧ t.session.processed = 1 ∧ t.session.skyStacked = 1 ∧ t.session.groundStacked = 1 ∧
    t.engine.job = none := by decide +kernel
/-- Two offers of the ground pass: raw 1,375 with no dark is 5,500 qDN. -/
theorem test_ground_visits : let s := { working { frame .stack with samples := Plane.nil.set 0 0 1375 } with
      regions := [some ⟨0, 0, 1, 1, .ground⟩] }
    let t := groundVisits 0 clean 2 s
    t.stacker.record .ground 0 = ⟨5500, 1, false⟩ ∧ t.stacker.record .ground 1 = ⟨0, 1, false⟩ ∧
    t.stacker.record .ground 2 = ⟨0, 0, false⟩ := by decide +kernel

/-! ## Tile status, rendering and output -/

theorem test_tile_status : (after (.tileStatus (req [0, 0])) (working (frame .stack))).engine.tileRequest = some 0 ∧
    (after (.tileStatus (req [0, 0])) (working (frame .stack))).rdy = false ∧
    status (after (.tileStatus (req [1, 0])) (working (frame .stack))) = some .badValue := by decide +kernel
theorem test_scan_record : let s := { working (frame .stack) with stacker := { ready.stacker with
      statusDefined := true, sky := Plane.nil.set Acc.zero 4097 ⟨5500, 131, false⟩ } }
    (scanRecord clean .sky 1 0 (scanRecord clean .sky 1 1 (s, 16000, 0))).2 = (0, 131) := by decide +kernel
theorem test_scan_damaged : let s := { working (frame .stack) with stacker := { ready.stacker with
      statusDefined := true, skyStatus := Plane.nil.set .normal 1 (.damaged (some 41)) } }
    (scanRecord clean .sky 1 0 (s, 16000, 0)).2 = (16000, 0) ∧ s.tileStatusOf .sky 1 = .damaged (some 41) := by decide +kernel
/-- R154: record 4097 of tile 1 lies in words 3072 and 3073; record 4098 shares the second. -/
theorem test_damage_record : let t := damageRecord ⟨0, [⟨.skyPass, .sky 3073⟩]⟩ .skyPass .sky 4097 (some 41) (working (frame .stack))
    t.tileStatusOf .sky 1 = .damaged (some 41) ∧ t.tileStatusOf .ground 1 = .normal ∧ t.stacker.totals.damagedSky = 1 ∧
    t.link.reports = [⟨0, .memory .skyLayer none 1⟩] ∧ recordsOfWord 3073 = [4097, 4098] := by decide +kernel
theorem test_tile_computation_none : after (.tileStatusComputation clean) ready = ready := by decide +kernel
theorem test_finish_start : let t := after (.finishStart (req [])) (inSession .closed)
    t.nextRenderTile = some 0 ∧ t.finisher.renderCounter = 1 ∧
    status (after (.finishStart (req [])) (inSession .armed)) = some .wrongState := by decide +kernel
theorem test_preview : let t := after (.previewArea (req (leBytes 2 149 ++ leBytes 2 99 ++ leBytes 2 5 ++ leBytes 2 5))) (inSession .closed)
    t.finisher.output = .rendering ⟨1, .preview, 149, 99, 1, 1, 256, some 14999, 0, 0, 0, 0⟩ := by decide +kernel
/-- A tile record of no samples. -/
def tileRecord : OutTile := ⟨.preview, 1, 2, 3, false, false, .sky, 256, 9, 9600, 6400, []⟩
theorem test_output_read : body (after (.outputRead (req [5, 0]) clean) { ready with finisher := { ready.finisher with
      tiles := Plane.nil.set none 5 (some tileRecord) } }) = .outputTile 5 5 0 tileRecord ∧
    body (after (.outputRead (req [5, 0]) clean) ready) = .notReady none := by decide +kernel
theorem test_output_read_error :
    let s := { ready with finisher := { ready.finisher with tiles := Plane.nil.set none 5 (some tileRecord) } }
    let t := after (.outputRead (req [5, 0]) ⟨0, [⟨.outputRead, .output 5120⟩]⟩) s
    status t = some .dataError ∧ t.finisher.tile 5 = none ∧ t.link.reports = [⟨0, .memory .output none 5⟩] := by decide +kernel
theorem test_output_release : (after (.outputRelease (req []) ⟨0, clean⟩) { ready with finisher := { ready.finisher with
      output := .ready ⟨1, .finish, 0, 0, 1, 1, 256, none, 1, 0, 0, 0⟩ } }).finisher.output = .empty := by decide +kernel
theorem test_finish_configure : (after (.finishConfigure (req (num4 5000))) ready).finisher.pedestal = 4095 := by decide +kernel
/-- R165 and R166: the mean 5,000.5 rounds up; a clipped record gives 65,535; a hole takes the mean of
the neighbours two columns away, 5,001 and 3,000. -/
theorem test_render_pixels : let s := { working (frame .stack) with stacker := { ready.stacker with
      statusDefined := true
      sky := ((Plane.nil.set Acc.zero 0 ⟨10001, 2, false⟩).set Acc.zero 1 ⟨0, 0, true⟩).set Acc.zero 4 ⟨3000, 1, false⟩ } }
    ((renderPixels clean [] 256 0 3 s).pixels.reverse.map fun p => (p.value, p.tally)) =
      [(5257, .plain), (65535, .clipped), (4256, .filled)] := by decide +kernel
theorem test_render_none : after (.renderTile clean) ready = ready := by decide +kernel

/-! ## States and operands that meet the hypotheses of each statement, clause by clause -/

theorem ready_takes : ready.takes := ⟨rfl, nofun⟩
theorem inSession_takes (st : SessionState) : (inSession st).takes := ⟨rfl, nofun⟩
theorem working_takes (f : SubFrame) : (working f).takes := ⟨rfl, nofun⟩
theorem building_takes (d : DarkSlot) (a o : Nat) (x : Bool) : (buildingState d a o x).takes := ⟨rfl, nofun⟩
theorem standby_takes : (inPower .standby).takes := ⟨rfl, nofun⟩

/-- `ready` with `n` reports queued. -/
def queued (n : Nat) (s : State) : State :=
  { s with link := { s.link with reports := List.replicate n ⟨0, .reset .soft⟩ } }

theorem witness_StepRunsFront : { ready with pending := [.clockTick, .track] }.pending = Instr.clockTick :: [.track] ∧
    ready.pending = [] := ⟨rfl, rfl⟩
theorem witness_WireReadsBack : ReqFrame.wf ⟨0, List.replicate 256 0, 1⟩ = true ∧ Req.ofCode 0x7F = none ∧
    isShortFrame [0xA5, 1, 2, 65, 0] = true ∧ isShortFrame [0xA5] = true ∧ [0xA5, (1 : Byte)].head? = some 0xA5 ∧
    ([] : List Byte).head? ≠ some 0xA5 ∧ Instr.sensorEndMarker.wf = true ∧
    encodeItem .sensorEndMarker = some [endWord] := by decide +kernel
theorem witness_RequestEnters : ready.power.state ≠ .standby ∧
    ((queued 31 (inPower .standby)).power.state = .standby ∧ (queued 31 (inPower .standby)).link.reports.length < 32) ∧
    ((queued 32 (inPower .standby)).power.state = .standby ∧ 32 ≤ (queued 32 (inPower .standby)).link.reports.length) := by
  decide +kernel
theorem witness_PostingReports : (queued 31 ready).link.reports.length < 32 ∧ 32 ≤ (queued 32 ready).link.reports.length := by
  decide +kernel
theorem witness_BusyLinkDiscards : State.reset.rdy = false ∧ (Instr.ping (req [])).frame? = some (req []) := by decide +kernel
theorem witness_LinkAnswersItself : (0x7F : Byte).toNat < 0x80 ∧ (inPower .sleep).rdy = true ∧
    (inPower .sleep).power.state = .sleep ∧ (Instr.ping (req [])).req? = some .ping ∧
    (Instr.ping (req [])).frame? = some (req []) ∧ Req.ping ≠ .statusGet ∧ Req.ping ≠ .powerRun ∧
    (queued 32 (inPower .standby)).takes ∧ ready.takes := by
  refine ⟨by decide, rfl, rfl, rfl, rfl, nofun, nofun, ⟨rfl, nofun⟩, ready_takes⟩
theorem witness_ShortPayloads : ready.takes ∧ (Instr.regionSet (req (List.replicate 16 0))).req? = some .regionSet ∧
    (req (List.replicate 16 0)).payload.length < 17 := ⟨ready_takes, by decide +kernel⟩

theorem witness_ReadingTheSlot : (after (.ping (req [])) ready).link.slot = .full ⟨0x81, 7, .ok, .ping⟩ ∧
    ∀ r, ready.link.slot ≠ .full r := ⟨by decide +kernel, fun r h => by simp [ready, State.reset] at h⟩
theorem witness_PingAnswers : (inPower .sleep).rdy = true ∧ (inPower .sleep).power.state = .sleep ∧ ready.takes :=
  ⟨rfl, rfl, ready_takes⟩
theorem witness_StatusGetReportsAndClears : ready.rdy = true ∧ (inPower .sleep).rdy = true := ⟨rfl, rfl⟩
theorem witness_ReportFetchRemovesOldest : ready.takes ∧ readOne 4 (req [0, 0, 0, 0]).payload = some 0 ∧
    readOne 4 (req [9, 0, 0, 0]).payload = some 9 ∧ readOne 4 (req [8, 0, 0, 0]).payload = some 8 :=
  ⟨ready_takes, by decide +kernel⟩
theorem witness_SoftResetLeaves : (working (frame .stack)).takes ∧ (working (frame .stack)).stacker.statusDefined = true ∧
    { working (frame .stack) with format := ⟨1024, 1024⟩ }.format.legal = true ∧
    (working (frame .stack)).engine.job = some (.light 0) ∧ (working (frame .stack)).buffer 0 = some (frame .stack) ∧
    ready.takes ∧ ready.engine.job = none := ⟨working_takes _, rfl, by decide +kernel, rfl, rfl, ready_takes, rfl⟩
theorem witness_HardwareResetLeaves : ready.engine.job = none ∧ ready.link.ready = true ∧
    (queued 31 State.reset).link.ready = false ∧ (queued 31 State.reset).link.reports.length < 32 ∧
    (after (.sessionOpen (req [])) ready).engine.job = some .clearing ∧
    ∀ kind tag, (queued 31 State.reset).link.slot ≠ .pending kind tag :=
  ⟨rfl, rfl, rfl, by decide, by decide +kernel, nofun⟩
theorem witness_ClockTickCounts : (inPower .sleep).power.state = .sleep ∧ ready.power.state ≠ .sleep ∧
    ready.time.progressDue = none ∧ ready.standbyDue = false ∧ ready.napDue = false := by decide +kernel
theorem witness_ProgressTransitions :
    let s := { working (frame .measure) with time := ⟨40000, some 32768⟩ }
    s.time.progressDue = some 32768 ∧ s.session.state = .integrating ∧ s.session.tRef = some 5000 ∧
    s.link.reports.length < 32 ∧ { ready with time := ⟨40000, some 32768⟩ }.session.state ≠ .integrating := by decide +kernel
theorem witness_StandbyEntered : ready.takes ∧ ready.engineIdle = true ∧ ready.portIdle = true ∧
    ready.power.pendingStandby = false ∧ (working (frame .stack)).takes ∧ (working (frame .stack)).engineIdle = false ∧
    (let s := queued 31 { ready with power := ⟨.run, true, 100, 100, false⟩ }
     s.power.state = .run ∧ s.engineIdle = true ∧ s.portIdle = true ∧ s.link.reports.length < 32 ∧
     s.power.pendingStandby = true ∧ 0 < s.power.napDelay ∧ s.power.napDelay ≤ s.power.napTimer) :=
  ⟨ready_takes, by decide +kernel, by decide +kernel, by decide +kernel, working_takes _, by decide +kernel⟩
theorem witness_SleepRequest : (∀ st, (inSession st).takes) ∧ (inSession .paused).engineIdle = true ∧
    (inSession .paused).portIdle = true ∧ (inSession .paused).building = false ∧ (working (frame .stack)).engineIdle = false ∧
    (buildingState .building 0 0 true).building = true :=
  ⟨inSession_takes, by decide +kernel⟩
theorem witness_WakeFromSleep : let s := queued 31 (inPower .sleep)
    s.rdy = true ∧ s.power.state = .sleep ∧ s.session.state ≠ .integrating ∧ s.link.reports.length < 32 ∧
    readPowerRun [1, 0, 0, 0, 1, 0x5C, 0x26, 5] = some 86400001 ∧ readPowerRun [0, 0, 0, 0] = some 0 := by decide +kernel
theorem witness_PowerRunAwake : ready.takes ∧ readPowerRun [0, 0, 0, 0] = some 0 := ⟨ready_takes, by decide +kernel⟩
theorem witness_NapDelaySet : ready.rdy = true ∧ ready.power.state ≠ .sleep ∧ readOne 4 [0xC1, 0x27, 9, 0] = some 600001 ∧
    readOne 4 [0, 0, 0, 0] = some 0 ∧ (inPower .sleep).rdy = true := by decide +kernel
theorem witness_FormatRequest : ready.takes ∧ readPair (leBytes 4 1024 ++ leBytes 4 6400) = some (1024, 6400) ∧
    readPair (leBytes 4 960 ++ leBytes 4 6400) = some (960, 6400) ∧ ready.session.state = .idle ∧ ready.buildActive = false ∧
    ready.format = ⟨9600, 6400⟩ ∧ (ready.entered .sensorFormat (req [])).link.reports.length < 32 ∧
    (inSession .armed).takes :=
  ⟨ready_takes, by decide +kernel, by decide +kernel, by decide +kernel, by decide +kernel, by decide +kernel,
    by decide +kernel, inSession_takes _⟩
theorem witness_ConfigureRequest : (inSession .armed).takes ∧ ready.takes ∧ (inPower .sleep).rdy = true ∧
    readSessionConfig (configBytes 600000 23) = some { SessionConfig.default with exposureMs := 600000, progressBit := 23 } ∧
    readSessionConfig (configBytes 600001 9) = some { SessionConfig.default with exposureMs := 600001, progressBit := 9 } :=
  ⟨inSession_takes _, ready_takes, rfl, by decide +kernel⟩
theorem witness_OpenRequest : ready.takes ∧ ready.staging.length = 3 ∧ ready.session.state = .idle ∧ ready.buildActive = false ∧
    (∀ b, ready.buffer b = none) ∧ (buildingState .building 0 0 true).takes ∧
    (buildingState .building 0 0 true).buildActive = true ∧ (inSession .closed).takes :=
  ⟨ready_takes, rfl, rfl, rfl, fun b => by
    match b with
    | 0 | 1 | 2 => rfl
    | _ + 3 => rfl, building_takes _ _ _ _, rfl, inSession_takes _⟩
theorem witness_ClearingCompletes : (after (.sessionOpen (req [])) ready).engine.job = some .clearing := by decide +kernel
theorem witness_PauseResumeClose : (∀ st, (inSession st).takes) ∧ (inSession .paused).lightInProcessing = false ∧
    (inSession .paused).noSettingsHeld = true ∧ (inSession .paused).engine.edits = [] ∧
    { working (frame .stack) with session := { Session.cleared with state := .paused } }.lightInProcessing = true ∧
    { inSession .paused with engine := { Engine.afterReset with edits := [.guideDrop 0] } }.engine.edits ≠ [] ∧
    { inSession .paused with engine := { Engine.afterReset with pendTracker := { mode := some .auto } } }.noSettingsHeld = false :=
  ⟨inSession_takes, by decide +kernel⟩
theorem witness_DiscardRequest : ready.takes ∧ ready.session.state = .idle ∧ (working (frame .find)).takes ∧
    (working (frame .find)).session.state ≠ .idle ∧ (working (frame .find)).engine.job = some (.light 0) ∧
    (working (frame .find)).buffer 0 = some (frame .find) ∧ (frame .find).stage ≠ .stack ∧
    (after (.sessionOpen (req [])) ready).engine.job = some .clearing ∧
    (after (.sessionOpen (req [])) ready).session.state ≠ .idle ∧ (inSession .closed).engine.job = none ∧
    (inSession .closed).session.state ≠ .idle ∧ (working (frame .measure)).buffer 0 = some (frame .measure) ∧
    (working (frame .track)).buffer 0 = some (frame .track) ∧ (working (frame .stack)).buffer 0 = some (frame .stack) ∧
    (working (frame .stack)).stacker.statusDefined = true ∧
    ({ Engine.afterReset with job := some (.renderTile 0 [] 1 2) } : Engine).job = some (.renderTile 0 [] 1 2) :=
  ⟨ready_takes, rfl, working_takes _, by decide +kernel⟩
theorem witness_ReportingRequests : ready.takes ∧
    ({ ready with regions := workedRegions }.regions[9]? = some (some ⟨0, 60, 150, 10, .horizon 32 32⟩)) ∧
    (buildingState (.ready ⟨38, 30000, 12, .nil⟩) 0 0 true).calib.slot 1 = .ready ⟨38, 30000, 12, .nil⟩ :=
  ⟨ready_takes, by decide +kernel⟩
theorem witness_ReportingRequests_find : let g := { frame .find with reference := true }
    (working g).takes ∧ (working g).lightAt .find = some (0, g) ∧ (working (frame .find)).lightAt .find = some (0, frame .find) ∧
    (working g).stars.guides.length = 12 ∧ clean.uncorrectable = [] ∧ ready.lightAt .find = none ∧
    (let s := { working (frame .find) with stars := { ready.stars with guides := List.replicate 12 (some star) } }
     s.lightAt .find = some (0, frame .find) ∧ s.stars.armed = false ∧ (frame .find).reference = false ∧
       ¬s.stars.occupiedCount < s.tracker.settings.refillLevel) :=
  ⟨working_takes _, by decide +kernel⟩
theorem witness_ReportingRequests_stages : (working (frame .stack)).takes ∧ (working (frame .stack)).engine.job ≠ none ∧
    ready.engine.job = none ∧ (working (frame .stack)).lightAt .stack = some (0, frame .stack) ∧
    (working (frame .measure)).lightAt .measure = some (0, frame .measure) ∧
    (working (frame .measure)).lightAt .stack = none ∧ (working (frame .stack)).lightAt .measure = none ∧
    (working (frame .stack)).lightAt .track = none ∧ (working (frame .stack)).lightAt .find = none ∧
    (tracking.lightAt .track).map (fun x => (x.2.measured.map Measured.slot)) = some [0, 1, 3, 4, 6] :=
  ⟨working_takes _, by decide +kernel⟩
/-- The header that takes `accepted` to max_subframes (R30): one sub-frame is left of the 16,000. -/
theorem witness_HeaderAccepted_limit : let s := { inSession .integrating with
      session := { Session.cleared with state := .integrating, tRef := some 30000, accepted := 15999 }, time := ⟨45000, none⟩ }
    s.power.state = .run ∧ s.portIdle = true ∧ s.buildAccepting = false ∧ s.staging.length = 3 ∧ s.lowestFree = some 0 ∧
    s.link.reports.length < 32 ∧ s.session.accepted + 1 = s.config.maxSubframes ∧ s.config.maxSubframes = 16000 ∧
    s.config.exposureMs = 30000 ∧ ((30000 : Time) - 30000).toNat ≤ s.config.maxDuration := by decide +kernel
theorem witness_HeaderAccepted : let s := queued 31 { inSession .armed with time := ⟨45000, none⟩ }
    (s.power.state = .run ∧ s.portIdle = true ∧ s.buildAccepting = false ∧ s.staging.length = 3 ∧ s.format.width = 9600 ∧
      s.format.height = 6400 ∧ s.config.exposureMs = 30000 ∧ s.lowestFree = some 0 ∧ s.link.reports.length < 32 ∧
      s.session.accepted + 1 < s.config.maxSubframes ∧ s.config.maxSubframes ≤ 16000 ∧ s.session.state = .armed) ∧
    (let u := { s with session := { s.session with state := .integrating, tRef := some 30000 } }
     u.session.state = .integrating ∧ ((30000 : Time) - 30000).toNat ≤ u.config.maxDuration) := by decide +kernel
/-- A build at its last frame but one: 253 added, 1 outstanding. -/
def lastButOne : State := buildingState .building 253 1 true
theorem witness_HeaderAccepted_dark : (lastButOne.calib.build.map fun x => (x.accepting, x.exposureMs, x.added + x.outstanding)) =
      some (true, some 30000, 254) ∧ lastButOne.power.state = .run ∧ lastButOne.portIdle = true ∧
    lastButOne.staging.length = 3 ∧ lastButOne.lowestFree = some 0 ∧ (2 : Half) = 2 := by decide +kernel
theorem witness_HeaderAccepted_other : (inPower .standby).power.state = .standby ∧ (capturing 2).power.state = .run ∧
    (capturing 2).port.state = .capturing ⟨0, 2, none⟩ ∧ (capturing 2).buffer 0 = some (frame .arriving) := by decide +kernel
theorem witness_ArrivalChecksInOrder : (ready.arrivalCheck ⟨false, 41, .light, 9600, 6400, 30000, 0⟩ 0 = some .format) ∧
    (inSession .armed).arrivalCheck ⟨true, 41, .light, 9600, 6400, 30000, 0⟩ 0 = none ∧
    (inSession .paused).arrivalCheck ⟨true, 41, .light, 9600, 6400, 30000, 0⟩ 0 = some .paused := by decide +kernel
theorem witness_HeaderDropped :
    let h := readHeader [41, 1, 9600, 6400, 30000, 0, 0]
    (let s := queued 30 (inSession .paused)
     s.power.state = .run ∧ s.portIdle = true ∧ s.link.reports.length < 31 ∧
       s.arrivalCheck h (s.midExposure s.time.clock h.exposureMs) = some .paused) ∧
    (let s := queued 30 { inSession .integrating with
        time := ⟨28815001, none⟩, session := { Session.cleared with state := .integrating, tRef := some 0 } }
     s.power.state = .run ∧ s.portIdle = true ∧ s.link.reports.length < 31 ∧ s.buildAccepting = false ∧
       s.arrivalCheck h (s.midExposure s.time.clock h.exposureMs) = some .limit) := by decide +kernel
theorem witness_RowCaptured : (capturing 63).power.state ≠ .sleep ∧ (capturing 63).port.state = .capturing ⟨0, 63, none⟩ ∧
    (capturing 63).buffer 0 = some (frame .arriving) ∧ (63 : Half).toNat = 63 ∧ 63 < (frame .arriving).height ∧
    (List.replicate 64 (9 : Half)).length = (frame .arriving).width ∧ (frame .arriving).height ≤ (64 : Half).toNat ∧
    { capturing 2 with port := ⟨.capturing ⟨0, 2, some .rowLength⟩, none, 0, 1⟩ }.port.state =
      .capturing ⟨0, 2, some .rowLength⟩ := by
  decide +kernel
theorem witness_PortItems : (inPower .sleep).power.state = .sleep ∧
    { ready with port := { ready.port with state := .waiting } }.port.state = .waiting ∧ ready.port.state = .skipping ∧
    (capturing 64).port.state = .capturing ⟨0, 64, none⟩ ∧ (capturing 64).buffer 0 = some (frame .arriving) ∧
    (frame .arriving).height = 64 ∧ (frame .arriving).abandoned = false := by decide +kernel
theorem witness_MalformedDropped : (capturing 63).port.state = .capturing ⟨0, 63, none⟩ ∧ (capturing 63).staging.length = 3 ∧
    (capturing 63).buffer 0 = some (frame .arriving) ∧ (frame .arriving).abandoned = false ∧ 63 ≠ (frame .arriving).height ∧
    (frame .arriving).kind = .light ∧ (capturing 63).session.state ≠ .idle ∧ (capturing 63).link.reports.length < 32 ∧
    { frame .arriving with abandoned := true }.abandoned = true := by
  decide +kernel
/-- Capturing a dark frame of build 3, which has `added` frames and this one outstanding. -/
def capturingDark (added : Nat) (accepting : Bool) : State :=
  { buildingState .building added 1 accepting with
    staging := [some { frame .arriving with kind := .dark, build := some (1, 3) }, none, none]
    port := ⟨.capturing ⟨0, 63, none⟩, none, 0, 1⟩ }
theorem witness_MalformedDropped_dark : let g := { frame .arriving with kind := .dark, build := some (1, 3) }
    (capturingDark 5 true).buffer 0 = some g ∧ (capturingDark 5 true).matchesBuild g = true ∧
    (capturingDark 5 false).matchesBuild g = true ∧ (capturingDark 0 false).matchesBuild g = true ∧
    (capturingDark 5 true).matchesBuild { g with build := some (1, 2) } = false ∧
    (capturingDark 0 false).calib.build = some ⟨1, 3, false, some 30000, 0, 1, -100, true, 0⟩ := by decide +kernel

/-- The payload of GUIDE.ADD at the far corner of the largest format. -/
def corner : List Byte := signed4 76799 ++ signed4 51199
theorem witness_EditRequests : (inSession .armed).takes ∧ editReadable (.guideAdd (req corner)) = true ∧
    (inSession .armed).editOf (.guideAdd (req corner)) = some (.guideAdd 76799 51199) ∧
    (inSession .armed).editOf (.guideAdd (req (signed4 76800 ++ signed4 0))) = none ∧
    (inSession .armed).lightInProcessing = false ∧ (inSession .armed).engine.edits = [] ∧
    (working (frame .stack)).takes ∧ (working (frame .stack)).lightInProcessing = true ∧
    ready.takes ∧ ready.editWrongState .guideAdd ∧ ¬(inSession .armed).editWrongState .guideAdd :=
  ⟨inSession_takes _, by decide +kernel, by decide +kernel, by decide +kernel, by decide +kernel, by decide +kernel,
    working_takes _, by decide +kernel, ready_takes, .inl ⟨.inl rfl, by decide +kernel⟩, by
      simp [State.editWrongState, inSession]⟩
theorem witness_EditRequests_full : let s := { working (frame .stack) with
      engine := { Engine.afterReset with edits := List.replicate 16 (.setPole 0 0) } }
    s.takes ∧ s.engine.edits ≠ [] ∧ 16 ≤ s.engine.edits.length ∧
    s.editOf (.regionClear (req (num4 63))) = some (.regionClear (some 63)) := ⟨⟨rfl, nofun⟩, by decide +kernel⟩
theorem witness_EditsTakeEffect : ready.stars.guide 0 = none ∧
    { ready with stars := { ready.stars with guides := [some star] } }.stars.guide 0 = some star ∧
    (∀ k, k < 1 → ({ ready.stars with guides := [some star] } : StarUnit).guide k ≠ none) := by decide +kernel
theorem witness_SettingsRequests : ready.takes ∧ settingsOf (.trackMode (req [3])) = some ({ mode := some .manual }, {}, {}) ∧
    ready.lightInProcessing = false ∧ ready.noSettingsHeld = true ∧ (working (frame .stack)).takes ∧
    (working (frame .stack)).lightInProcessing = true ∧ readOne 1 [4] = some 4 ∧ readOneS [0, 0, 0, 0] = some 0 ∧
    (readStackFields (num4 1 ++ [3])).map StackFields.rejectMode = some (some 3) :=
  ⟨ready_takes, by decide +kernel, by decide +kernel, by decide +kernel, working_takes _, by decide +kernel⟩
theorem witness_SettingsTakeEffect : TrackMode.auto = ready.tracker.mode ∧ TrackMode.manual ≠ ready.tracker.mode ∧
    ({ lockSpan := some 2 } : TrackFields) ≠ {} := by decide +kernel
theorem witness_FinderAndLolRequests : (inSession .closing).takes ∧ ready.takes ∧ readOne 4 (num4 15) = some 15 ∧
    readOne 4 (num4 16) = some 16 := ⟨inSession_takes _, ready_takes, by decide +kernel⟩
theorem witness_DarkBuildRequest : ready.takes ∧ (inSession .armed).takes ∧ (buildingState .building 0 0 true).takes ∧
    readDarkBuild (num4 1 ++ [3]) = some (some 3, none) ∧ readDarkBuild (num4 1 ++ [4]) = some (some 4, none) ∧
    readDarkBuild (num4 0) = some (none, none) ∧ ready.calib.slot 3 = .free ∧ ready.buildActive = false ∧
    (buildingState .building 0 0 true).buildActive = true ∧ (buildingState (.ready ⟨0, 1, 1, .nil⟩) 0 0 true).calib.slot 1 ≠ .free ∧
    (buildingState (.ready ⟨0, 1, 1, .nil⟩) 0 0 true).buildActive = false :=
  ⟨ready_takes, inSession_takes _, building_takes _ _ _ _, by decide +kernel⟩
theorem witness_DarkEndAbortFree : (∀ d a o x, (buildingState d a o x).takes) ∧ ready.takes ∧ ready.building = false ∧
    (buildingState .building 0 0 true).building = true ∧ (buildingState .building 5 1 true).calib.slot 1 = .building ∧
    (buildingState .building 5 1 true).engine.job = none ∧ adding.takes ∧ adding.engine.job = some (.dark 0) ∧
    (adding.calib.slot 1).active = true ∧ (adding.calib.slot 0).active = false ∧ (ready.calib.slot 3).active = false ∧
    readOne 1 [3] = some 3 ∧ readOne 1 [4] = some 4 ∧ ready.slotInUse 3 = false ∧
    (adding.buffer 0).map adding.matchesBuild = some true ∧
    (let s := { buildingState .finalizing 5 0 false with engine := { Engine.afterReset with job := some .finalization } }
     s.engine.job = some .finalization ∧ (s.calib.slot 1).active = true ∧
       s.calib.build = some ⟨1, 3, false, some 30000, 5, 0, -100, false, 0⟩) :=
  ⟨building_takes, ready_takes, by decide +kernel, by decide +kernel, by decide +kernel, by decide +kernel, ⟨rfl, nofun⟩,
    by decide +kernel⟩
theorem witness_DefectRequests : ready.takes ∧ ready.calib.defectsLawful ∧
    readPixelList (pixels [(9599, 6399)]) = some [(9599, 6399)] ∧ readPixelList (pixels [(9600, 0)]) = some [(9600, 0)] ∧
    ready.session.state = .idle ∧ ready.finalizing = false ∧ (buildingState .finalizing 1 0 false).finalizing = true ∧
    readPair (num4 0 ++ num4 1025) = some (0, 1025) ∧ (inSession .armed).takes :=
  ⟨ready_takes, ⟨by decide, .nil⟩, by decide +kernel, by decide +kernel, rfl, by decide +kernel, by decide +kernel,
    by decide +kernel, inSession_takes _⟩
theorem witness_DarkAddAddsFrame : adding.engine.job = some (.dark 0) ∧
    ((adding.buffer 0).map fun f => (adding.matchesBuild f, f.kind)) = some (true, .dark) ∧
    adding.calib.build = some ⟨1, 3, true, some 30000, 5, 1, -100, false, 0⟩ ∧ clean.uncorrectable = [] ∧
    1 < adding.format.width * adding.format.height / 4 ∧
    (({ adding with calib := { adding.calib with build := none } }.buffer 0).map
      ({ adding with calib := { adding.calib with build := none } }).matchesBuild) = some false := by decide +kernel
theorem witness_FinalizationMakesDark : let s := { buildingState .finalizing 5 0 false with
      format := ⟨1, 1⟩, engine := { Engine.afterReset with job := some .finalization } }
    s.engine.job = some .finalization ∧ s.calib.build = some ⟨1, 3, false, some 30000, 5, 0, -100, false, 0⟩ ∧
    1 < s.calib.slots.length ∧ clean.uncorrectable = [] ∧ s.calib.defects.length + 1 ≤ 4096 := by decide +kernel
theorem witness_JobOrder : (inPower .standby).power.state ≠ .run ∧ (working (frame .stack)).engine.job ≠ none ∧
    (let s := { working (frame .staged) with engine := Engine.afterReset }
     s.power.state = .run ∧ s.engine.job = none ∧ s.oldestStaged = some 0 ∧ s.buffer 0 = some (frame .staged) ∧
       s.noSettingsHeld = true) ∧
    (let s := { working { frame .staged with kind := .dark } with engine := Engine.afterReset }
     s.oldestStaged = some 0 ∧ (s.buffer 0).map SubFrame.kind = some .dark) ∧
    ready.oldestStaged = none ∧ ready.finalizing = false ∧ (buildingState .finalizing 1 0 false).finalizing = true ∧
    ready.engine.tileRequest = none ∧ ready.nextRenderTile = none ∧
    (after (.finishStart (req [])) (inSession .closed)).nextRenderTile = some 0 ∧
    (after (.tileStatus (req [0, 0])) (inSession .closed)).engine.tileRequest = some 0 ∧
    (working (frame .stack)).lightInProcessing = true ∧ ready.staging = [none, none, none] ∧ ready.noSettingsHeld = true ∧
    (working (frame .staged)).staging.length = 3 ∧ (working (frame .staged)).buffer 0 = some (frame .staged) ∧
    ((frame .staged).acceptance - 0).msb = false := by
  decide +kernel
theorem witness_MeasureTakesGuides : let s := { working (frame .measure) with
      stars := { ready.stars with guides := some star :: List.replicate 11 none } }
    s.lightAt .measure = some (0, frame .measure) ∧ s.stars.guides.length = 12 ∧ clean.uncorrectable = [] ∧
    s.stars.guide 0 = some star ∧ s.windowPlaceable (star.refX, star.refY) = false ∧ s.stars.guide 11 = none := by decide +kernel
/-- MEASURE at the format 1,024 × 1,024 of a guide whose window is placeable, with a READY dark. -/
def measuring : State :=
  { working { frame .measure with darkChoice := .one 0 } with
    format := ⟨1024, 1024⟩
    regions := []
    calib := { ready.calib with slots := [.ready ⟨10, 30000, 5, .nil⟩, .free, .free, .free] }
    stars := { ready.stars with guides := some { star with refX := 4096, refY := 4096 } :: List.replicate 11 none } }
theorem witness_MeasureTakesGuides_errors : let g := { frame .measure with darkChoice := .one 0 }
    measuring.lightAt .measure = some (0, g) ∧ measuring.stars.guides.length = 12 ∧ measuring.format.legal = true ∧
    measuring.stars.guide 0 = some { star with refX := 4096, refY := 4096 } ∧
    25600 * 25600 ≤ measuring.tracker.poleDistanceSq (measuring.tracker.rotate g.predS g.predC (4096, 4096)) ∧
    measuring.windowPlaceable (measuring.tracker.rotate g.predS g.predC (4096, 4096)) = true ∧
    (∃ p ∈ pixelsOfCells (windowCells 256 256), (p.2 * 1024 + p.1) / 4 = 127612) ∧ 0 ∈ g.darkChoice.slots ∧
    measuring.calib.slot 0 = .ready ⟨10, 30000, 5, .nil⟩ ∧ g.kind = .light ∧ g.stagingError = false := by decide +kernel
theorem witness_TrackMoves : (tracking.lightAt .track).map Prod.fst = some 0 ∧ tracking.tracker.mode = .auto ∧
    tracking.tracker.state = .locked ∧ tracking.tracker.settings.lockSpan ≠ 0 ∧
    median [12000, -3000, 5000, 90000, 7000] = some 7000 ∧ tracking.stars.guide 4 = some star ∧
    (working { frame .track with reference := true }).lightAt .track = some (0, { frame .track with reference := true }) := by
  decide +kernel
/-- A PROBATION entry found for the first time, measured after an ACTIVE one. -/
theorem witness_TrackMoves_first : let m : Measured := ⟨1, false, ⟨.found, some 5002, 100000, some (40011, 30005)⟩, some 0⟩
    let g := { frame .track with measured := [⟨0, true, ⟨.notFound, none, 0, none⟩, none⟩, m] }
    let s := { working g with stars := { ready.stars with guides := [some star, some (newGuide (40008, 30000) 0)] } }
    s.lightAt .track = some (0, g) ∧ (g.measured.map Measured.slot).Nodup ∧ s.stars.guide 1 = some (newGuide (40008, 30000) 0) ∧
    (newGuide (40008, 30000) 0).state = .probation ∧ (newGuide (40008, 30000) 0).probationCount = 0 ∧
    m.result.centroid = some (40011, 30005) ∧ s.link.reports.length + g.measured.length < 32 := by decide +kernel
theorem witness_FindRefills : (working (frame .find)).lightAt .find = some (0, frame .find) ∧
    (working (frame .find)).stars.guides.length = 12 ∧ clean.uncorrectable = [] ∧
    (working { frame .find with reference := true }).lightAt .find = some (0, { frame .find with reference := true }) ∧
    (working (frame .find)).stars.armed = false := by decide +kernel
theorem witness_FindRefills_error : let s := { working (frame .find) with
      format := ⟨1024, 1024⟩, regions := [], stars := { ready.stars with armed := true } }
    s.lightAt .find = some (0, frame .find) ∧ s.stars.guides.length = 12 ∧ s.stars.armed = true ∧ s.cellInView 8 8 = true ∧
    s.cellValue (frame .find) 8 8 ≠ none ∧ (16 * s.format.width + 16) / 4 = 4100 := by decide +kernel
theorem witness_StackAddsSubframe : let s := { working (frame .stack) with format := ⟨1024, 1024⟩ }
    s.lightAt .stack = some (0, frame .stack) ∧ s.format.legal = true ∧ clean.uncorrectable = [] ∧
    (frame .stack).stagingError = false ∧ (frame .stack).kind = .light ∧ s.noSettingsHeld = true ∧ s.engine.edits = [] ∧
    1023 < s.format.width := by decide +kernel
/-- STACK at the format 1,024 × 1,024 with one ground tile, sky permitted and a READY dark. -/
def stacking : State :=
  { working { frame .stack with permission := .permitted, darkChoice := .one 0 } with
    format := ⟨1024, 1024⟩
    regions := [some ⟨0, 0, 1, 1, .ground⟩]
    calib := { ready.calib with slots := [.ready ⟨10, 30000, 5, .nil⟩, .free, .free, .free] } }
theorem witness_StackAddsSubframe_errors : let g := { frame .stack with permission := .permitted, darkChoice := .one 0 }
    stacking.lightAt .stack = some (0, g) ∧ stacking.format.legal = true ∧ stacking.stacker.statusDefined = true ∧
    skyDecision g.permission stacking.stacker.settings.gateMargin (backgroundK g.measured) none = .none ∧
    stacking.passReads g .ground (0, 0) (0, 0) ∧ stacking.passReads g .sky (64, 0) (64, 0) ∧
    wordHolds 0 (stacking.format.recordAddress 0 0) ∧ wordHolds 3072 (stacking.format.recordAddress 64 0) ∧
    stacking.format.visitOf (0, 0) .ground = 0 ∧ stacking.format.visitOf (64, 0) .sky = 4096 ∧
    0 ∈ g.darkChoice.slots ∧ stacking.calib.slot 0 = .ready ⟨10, 30000, 5, .nil⟩ ∧ (0 * 1024 + 64) / 4 = 16 := by
  refine ⟨by decide +kernel, by decide +kernel, rfl, by decide +kernel, ⟨by decide +kernel, by decide +kernel, by decide +kernel,
    by decide +kernel, by decide +kernel⟩, ⟨by decide +kernel, by decide +kernel, by decide +kernel, by decide +kernel,
    by decide +kernel⟩, .inl (by decide +kernel), .inl (by decide +kernel), by decide +kernel⟩
theorem witness_RejectionTest : (working (frame .stack)).buffer 0 = some (frame .stack) ∧ clean.uncorrectable = [] ∧
    (working (frame .stack)).tileDamaged .sky 0 = false ∧ 0 * 64 + 63 ∉ (working (frame .stack)).calib.defects ∧
    (frame .stack).raw 63 < (working (frame .stack)).config.whiteLevel := by decide +kernel
theorem witness_TilesRouteSamples : workedRegions[5]? = some (some ⟨40, 62, 30, 8, .horizon 20 45⟩) ∧
    Region.covers ⟨40, 62, 30, 8, .horizon 20 45⟩ 69 69 = true ∧ Region.covers ⟨0, 70, 150, 30, .ground⟩ 69 69 = false ∧
    Region.covers ⟨120, 0, 30, 20, .exclude⟩ 69 69 = false ∧ ¬((0 : Int) ≤ -1) ∧ ((9599 : Int) < 9600) ∧
    cutHeight 20 45 63 = 45 ∧ cutHeight 50 10 40 = 24 := by decide +kernel
theorem witness_TileStatusReports : (inSession .opening).takes ∧ (inSession .armed).takes ∧ readOne 2 [0x97, 0x3A] = some 14999 ∧
    (inSession .armed).format.tileCount = 15000 ∧ readOne 2 [0x98, 0x3A] = some 15000 ∧
    (let s := { working (frame .stack) with link := { ready.link with slot := .pending 0x4A 7 }
                                            engine := { Engine.afterReset with job := some (.tileStatus 0) } }
     s.engine.job = some (.tileStatus 0) ∧ s.link.slot = .pending 0x4A 7 ∧ (0x4A : Byte).toNat < 0x80 ∧
     clean.uncorrectable = [] ∧ (∀ l k, (s.stacker.record l (0 * 4096 + k)).count ≤ 16000) ∧
     s.tileStatusOf .sky 0 = .normal ∧ s.stacker.statusDefined = true ∧ wordHolds 3071 (0 * 4096 + 4095)) :=
  ⟨inSession_takes _, inSession_takes _, by decide +kernel, by decide +kernel, by decide +kernel, rfl, rfl, by decide, rfl,
    fun l k => by cases l <;> simp [working, inSession, ready, State.reset, Stacker.record, Stacker.records, Plane.get,
      Plane.find, Acc.zero], by decide +kernel, rfl, .inr (by decide)⟩
theorem witness_RenderRequests : (∀ st, (inSession st).takes) ∧ readArea (List.replicate 8 1) = some ⟨257, 257, 257, 257⟩ ∧
    readArea [149, 0, 99, 0, 1, 0, 1, 0] = some ⟨149, 99, 1, 1⟩ ∧ (inSession .closed).finisher.output = .empty ∧
    (∃ r, (after (.finishStart (req [])) (inSession .closed)).finisher.output = .rendering r) ∧
    readOne 4 (num4 4096) = some 4096 :=
  ⟨inSession_takes, by decide +kernel, by decide +kernel, rfl, ⟨_, rfl⟩, by decide +kernel⟩
theorem witness_OutputRequests : ready.takes ∧ readOne 2 [0x97, 0x3A] = some 14999 ∧ ready.format.tileCount = 15000 ∧
    ready.finisher.tile 14999 = none ∧
    { ready.finisher with tiles := Plane.nil.set none 14999 (some tileRecord) }.tile 14999 = some tileRecord ∧
    (∀ k m x y, ready.engine.job ≠ some (.renderTile k m x y)) :=
  ⟨ready_takes, by decide +kernel, by decide +kernel, by decide +kernel, by decide +kernel, nofun⟩
theorem witness_RenderTileOutput : let s := { working (frame .stack) with
      engine := { Engine.afterReset with job := some (.renderTile 0 [] 1 2) }
      finisher := { ready.finisher with output := .rendering ⟨1, .finish, 0, 0, 1, 1, 256, some 0, 0, 0, 0, 0⟩ } }
    s.engine.job = some (.renderTile 0 [] 1 2) ∧
    s.finisher.output = .rendering ⟨1, .finish, 0, 0, 1, 1, 256, some 0, 0, 0, 0, 0⟩ ∧ 0 < s.format.tileCount ∧
    clean.uncorrectable = [] := by decide +kernel
/-- A failing word of the tile's own record 0, and one of a record that the tile's first pixel reads as a neighbour. -/
theorem witness_RenderTileOutput_errors : let s := { working (frame .stack) with format := ⟨1024, 1024⟩ }
    s.format.legal = true ∧ s.stacker.statusDefined = true ∧ s.tileDamaged .sky 0 = false ∧ s.tileDamaged .sky 1 = false ∧
    (routePixel [] s.format 0 0).layer = some .sky ∧ (routePixel [] s.format 64 0).layer = some .sky ∧
    wordHolds 3072 (1 * 4096 + 0) ∧ s.holeAt [] false 64 0 = true ∧ (routePixel [] s.format 62 0).layer = some .sky ∧
    wordHolds 46 (s.format.recordAddress 62 0) ∧ s.format.tileOfPixel 62 0 ≠ 1 := by
  refine ⟨by decide +kernel, rfl, by decide +kernel, by decide +kernel, by decide +kernel, by decide +kernel, .inl (by decide),
    by decide +kernel, by decide +kernel, .inl (by decide +kernel), by decide +kernel⟩
theorem witness_QueuesAndCountsKept : ready.queuesBounded ∧ ready.countsBounded ∧ ready.restsIdle ∧ ready.openingLawful ∧
    step ready = .next ready := by
  simp [State.queuesBounded, State.countsBounded, State.restsIdle, State.openingLawful, ready, State.reset, Engine.afterReset,
    Session.cleared, Tracker.afterReset, step]
theorem witness_BlockLawsKept : ready.tracker.lawful ∧ ready.calib.defectsLawful ∧ ready.stars.candidatesLawful ∧
    ready.stars.guidesLawful ∧ ready.calib.buildLawful :=
  ⟨⟨nofun, nofun⟩, ⟨by decide, .nil⟩, ⟨by decide, .nil, .nil, nofun⟩,
    ⟨rfl, fun j k g h hj => by
      have : ready.stars.guide j = none := by
        simp only [StarUnit.guide, ready, State.reset, List.getD_eq_getElem?_getD, List.getElem?_replicate]
        split <;> rfl
      rw [this] at hj; nomatch hj⟩,
    ⟨rfl, fun k => by
      have : ready.calib.slot k = .free := by
        simp only [Calibration.slot, ready, State.reset, List.getD_eq_getElem?_getD, List.getElem?_replicate]
        split <;> rfl
      rw [this]
      exact ⟨nofun, nofun⟩⟩⟩
theorem witness_MemoryFormKept : (capturing 2).stacker.sky.wf Acc.zero = true ∧ (capturing 2).calib.scratch.wf 0 = true ∧
    (frame .arriving).samples.wf 0 = true ∧ (Plane.nil : Plane Acc).wf Acc.zero = true ∧
    ((Plane.nil : Plane Acc).set Acc.zero 6 ⟨1, 1, false⟩).wf Acc.zero = true := by decide +kernel
theorem ready_buffer (b : Nat) : ready.buffer b = none := by
  match b with
  | 0 | 1 | 2 => rfl
  | _ + 3 => rfl
theorem witness_SessionLawsKept : ready.sessionLawful ∧ step ready = .next ready := by
  have empty {p : Prop} (b : Nat) (g : SubFrame) (h : ready.buffer b = some g) : p := by simp [ready_buffer] at h
  exact ⟨⟨⟨nofun, nofun⟩, ⟨by decide, by decide, trivial⟩, fun _ _ => rfl,
    ⟨rfl, fun b g h => empty b g h, nofun, fun b g h => empty b g h, fun b h => by rcases h with h | h <;> nomatch h⟩, fun b _ g _ h _ _ => empty b g h,
    ⟨fun _ _ => ⟨rfl, rfl⟩, fun _ => ⟨rfl, rfl⟩⟩, fun h => absurd rfl h⟩, rfl⟩
theorem witness_MemoryFormKept_sums : ready.sumsLawful := by
  refine ⟨witness_BlockLawsKept.2.2.2.2, ?_, ?_, nofun, fun b f h => by simp [ready_buffer] at h⟩
  · intro _ l a _
    cases l <;> simp [ready, State.reset, Stacker.record, Stacker.records, Plane.get, Plane.find, Acc.zero]
  · intro d hd
    simp [ready, State.reset] at hd
    simp [hd, DarkSlot.planeLawful]

end Sys2Proof.Tests
end

section
/-! SESSION.CONFIGURE (R21, R22): what its owner answers in each case, and the request as a whole. -/

namespace Sys2Proof.Machine

/-! ## Answers that carry no payload -/

/-- A refusal leaves the part as its owner found it, with the status in the slot. -/
@[simp] theorem settle_refuse (r : Req) (f : ReqFrame) (st : Status) (s : State) :
    settle r.code f.tag (refuse st s) = s.answered r f st .empty := rfl

/-- An acceptance keeps the owner's changes, with the status in the slot. -/
@[simp] theorem settle_accept (r : Req) (f : ReqFrame) (st : Status) (s : State) :
    settle r.code f.tag (accept st s) = s.answered r f st .empty := rfl

/-- The clamp to a range, as the case split that the spec words it in. -/
theorem clampN_eq_ite {lo hi : Nat} (h : lo ≤ hi) (x : Nat) :
    clampN lo hi x = if x < lo then lo else if hi < x then hi else x := by
  unfold clampN
  split_ifs <;> omega

/-! ## The owner of SESSION.CONFIGURE -/

/-- The range check passes just when every checked field is in its range of R21 and nominal_rate is not 0. -/
theorem SessionConfig.inRange_iff (c : SessionConfig) : c.inRange = true ↔
    1000 ≤ c.exposureMs ∧ c.exposureMs ≤ 600000 ∧ c.readoutOffset ≤ 2000 ∧ 1000 ≤ c.whiteLevel ∧ c.whiteLevel ≤ 16383 ∧
    -74000 ≤ c.nominalRate ∧ c.nominalRate ≤ 74000 ∧ c.nominalRate ≠ 0 ∧ -4000000 ≤ c.poleX ∧ c.poleX ≤ 4000000 ∧
    -4000000 ≤ c.poleY ∧ c.poleY ≤ 4000000 ∧ 1 ≤ c.maxSubframes ∧ c.maxSubframes ≤ 16000 ∧ 1 ≤ c.maxDuration ∧
    c.maxDuration ≤ 28800000 := by
  simp only [SessionConfig.inRange, Bool.and_eq_true, decide_eq_true_eq, bne_iff_ne, and_assoc]

theorem ownSessionConfigure_of_not_idle {c : SessionConfig} {s : State} (h : s.session.state ≠ .idle) :
    ownSessionConfigure c s = refuse .wrongState s := if_pos h

theorem ownSessionConfigure_of_not_inRange {c : SessionConfig} {s : State} (h : s.session.state = .idle)
    (hc : ¬c.inRange = true) : ownSessionConfigure c s = refuse .badValue s := by
  simp [ownSessionConfigure, h, hc]

theorem ownSessionConfigure_of_inRange {c : SessionConfig} {s : State} (h : s.session.state = .idle)
    (hc : c.inRange = true) :
    ownSessionConfigure c s = accept .ok { s with config := { c with progressBit := clampN 10 22 c.progressBit } } := by
  simp [ownSessionConfigure, h, hc]

/-! ## The request -/

/-- The SESSION_CONFIGURE command serves its request and never stops the part. -/
theorem exec_sessionConfigure (f : ReqFrame) (s : State) : exec (.sessionConfigure f) s =
    .next (serve .sessionConfigure f readSessionConfig ownSessionConfigure s) := rfl

/-- A SESSION.CONFIGURE that reaches its owner: the owner's answer, settled on the part as entered. -/
theorem exec_sessionConfigure_of_takes {f : ReqFrame} {c : SessionConfig} {s : State} (h : s.takes)
    (hf : readSessionConfig f.payload = some c) : exec (.sessionConfigure f) s =
      .next (settle Req.sessionConfigure.code f.tag (ownSessionConfigure c (s.entered .sessionConfigure f))) := by
  rw [exec_sessionConfigure, serve_owner s _ f _ _ h hf]

/-- Settles O23: in SLEEP the dispatch answers; otherwise the owner's three cases, which read the session state and the
fields and find the session as it was before the frame was taken. -/
theorem configureRequest : Obligations.ConfigureRequest := by
  unfold Obligations.ConfigureRequest
  refine ⟨fun f s hrdy hsleep => ?asleep, fun f c s htakes hread => ?taken⟩
  case asleep => rw [exec_sessionConfigure, serve_asleep s _ f _ _ hrdy hsleep rfl]
  case taken =>
    have hsession := entered_session s .sessionConfigure f
    rw [exec_sessionConfigure_of_takes htakes hread, ← hsession, ← c.inRange_iff]
    refine ⟨fun hbusy => ?wrongState, fun hidle hbad => ?badValue, fun hidle hgood => ?ok⟩
    case wrongState => rw [ownSessionConfigure_of_not_idle hbusy, settle_refuse]
    case badValue => rw [ownSessionConfigure_of_not_inRange hidle hbad, settle_refuse]
    case ok => rw [ownSessionConfigure_of_inRange hidle hgood, settle_accept, clampN_eq_ite (by omega)]

end Sys2Proof.Machine
end

section
/-! Tile classes and routing (R129, R131, R132): which entry gives a tile its class, where the horizon cut lies, and where a
pixel goes. -/

namespace Sys2Proof.Machine

/-! ## The class of a tile -/

/-- The value found in a list is that of the entry at `k` when no entry before `k` has one. -/
theorem findSome?_eq_some_of_getElem? {α β : Type} {f : α → Option β} {l : List α} {k : Nat} {a : α} {b : β}
    (hk : l[k]? = some a) (hb : f a = some b) (hbefore : ∀ j x, j < k → l[j]? = some x → f x = none) :
    l.findSome? f = some b := by
  obtain ⟨hlt, rfl⟩ := List.getElem?_eq_some_iff.1 hk
  have hsplit : l = l.take k ++ l[k] :: l.drop (k + 1) := by rw [List.getElem_cons_drop, List.take_append_drop]
  refine List.findSome?_eq_some_iff.2 ⟨_, _, _, hsplit, hb, fun x hx => ?_⟩
  obtain ⟨j, hj, rfl⟩ := List.mem_take_iff_getElem.1 hx
  exact hbefore j _ (by omega) (List.getElem?_eq_getElem (by omega))

theorem regionClassAt_of_covers {r : Region} {col row : Nat} (h : r.covers col row = true) :
    regionClassAt col row (some r) = some r.cls := if_pos h

/-- An entry gives the tile no class just when it is unoccupied or does not cover it. -/
theorem regionClassAt_eq_none_iff {col row : Nat} {e : Option Region} :
    regionClassAt col row e = none ↔ ∀ r, e = some r → r.covers col row = false := by
  cases e <;> simp [regionClassAt]

/-- R129: a covering entry with no covering entry of lower index gives the tile its class. -/
theorem tileClassAt_of_first_covers {rs : List (Option Region)} {col row k : Nat} {r : Region} (hk : rs[k]? = some (some r))
    (hr : r.covers col row = true)
    (hbefore : ∀ j x, j < k → rs[j]? = some (some x) → x.covers col row = false) : tileClassAt rs col row = r.cls := by
  have hfound : rs.findSome? (regionClassAt col row) = some r.cls :=
    findSome?_eq_some_of_getElem? hk (regionClassAt_of_covers hr) fun j e hj he =>
      regionClassAt_eq_none_iff.2 fun x hx => hbefore j x hj (hx ▸ he)
  rw [tileClassAt, hfound, Option.getD_some]

/-- R129: a tile that no occupied entry covers is SKY. -/
theorem tileClassAt_of_not_covered {rs : List (Option Region)} {col row : Nat}
    (h : ∀ (k : Nat) (r : Region), rs[k]? = some (some r) → r.covers col row = false) : tileClassAt rs col row = .sky := by
  have hnone : rs.findSome? (regionClassAt col row) = none :=
    List.findSome?_eq_none_iff.2 fun e he => regionClassAt_eq_none_iff.2 fun r hr => by
      obtain ⟨k, hk⟩ := List.mem_iff_getElem?.1 he
      exact h k r (hr ▸ hk)
  rw [tileClassAt, hnone, Option.getD_none]

/-! ## The horizon cut -/

/-- The floor of R132 is Euclidean division: the divisor is positive. -/
theorem cutHeight_eq (yl yr x : Nat) : cutHeight yl yr x = yl + ((yr : Int) - yl) * x / 63 := by
  rw [cutHeight, floorQ, Int.fdiv_eq_ediv_of_nonneg _ (by decide)]

/-- A rise shared out over 63 columns stays between none of it and all of it. -/
theorem rise_between (d : Int) {x : Int} (h0 : 0 ≤ x) (h63 : x ≤ 63) : min 0 d ≤ d * x / 63 ∧ d * x / 63 ≤ max 0 d := by
  rw [Int.le_ediv_iff_mul_le (by decide)]
  rcases le_total 0 d with hd | hd
  · have hlo : 0 ≤ d * x := mul_nonneg hd h0
    have hhi : d * x ≤ d * 63 := mul_le_mul_of_nonneg_left h63 hd
    omega
  · have hlo : d * 63 ≤ d * x := mul_le_mul_of_nonpos_left h63 hd
    have hhi : d * x ≤ 0 := mul_nonpos_of_nonpos_of_nonneg hd h0
    omega

/-- R132: the cut height lies between the heights at the tile's two ends. -/
theorem cutHeight_between (yl yr : Nat) {x : Nat} (h : x ≤ 63) :
    min (yl : Int) yr ≤ cutHeight yl yr x ∧ cutHeight yl yr x ≤ max (yl : Int) yr := by
  have hrise := rise_between ((yr : Int) - yl) (x := x) (by omega) (by omega)
  rw [cutHeight_eq]
  omega

/-! ## Where a pixel goes -/

theorem Format.hasPixel_iff {f : Format} {px py : Int} :
    f.hasPixel px py = true ↔ 0 ≤ px ∧ px < f.width ∧ 0 ≤ py ∧ py < f.height := by
  simp only [Format.hasPixel, Bool.and_eq_true, decide_eq_true_eq, and_assoc]

theorem routePixel_of_not_hasPixel {rs : List (Option Region)} {f : Format} {px py : Int} (h : ¬f.hasPixel px py = true) :
    routePixel rs f px py = .neither := if_neg h

/-- A pixel of the frame is routed by its tile and its place in that tile. -/
theorem routePixel_of_hasPixel {rs : List (Option Region)} {f : Format} {px py : Int} (h : f.hasPixel px py = true) :
    routePixel rs f px py =
      routeInTile (tileClassAt rs (px.toNat / 64) (py.toNat / 64)) (px.toNat % 64) (py.toNat % 64) := if_pos h

/-- R132: above the cut to the sky layer, on or below it to the ground layer. -/
theorem routeInTile_horizon (yl yr x y : Nat) : routeInTile (.horizon yl yr) x y =
    if (y : Int) < yl + ((yr : Int) - yl) * x / 63 then .sky else .ground := by
  rw [routeInTile, cutHeight_eq]

theorem natCast_toNat_emod {z : Int} (h : 0 ≤ z) (n : Nat) : ((z.toNat % n : Nat) : Int) = z % n := by
  rw [Int.natCast_emod, Int.toNat_of_nonneg h]

/-- Settles O51: the search over the region list gives the class, the class and the local coordinates give the route, and the
cut is the left end's height plus a part of the rise. -/
theorem tilesRouteSamples : Obligations.TilesRouteSamples := by
  unfold Obligations.TilesRouteSamples
  refine ⟨fun rs col row => ⟨?covered, ?uncovered⟩, fun rs f px py => ⟨?outside, ?inside, ?cut⟩⟩
  case covered => exact fun _ _ hk hr hbefore => tileClassAt_of_first_covers hk hr hbefore
  case uncovered => exact tileClassAt_of_not_covered
  case outside => exact fun hout => routePixel_of_not_hasPixel (Format.hasPixel_iff.not.2 hout)
  case inside =>
    intro hx hxw hy hyh
    rw [routePixel_of_hasPixel (Format.hasPixel_iff.2 ⟨hx, hxw, hy, hyh⟩)]
    cases tileClassAt rs (px.toNat / 64) (py.toNat / 64) with
    | sky => rfl
    | ground => rfl
    | exclude => rfl
    | horizon yl yr => rw [routeInTile_horizon, natCast_toNat_emod hx, natCast_toNat_emod hy]; rfl
  case cut => exact fun yl yr x hle => ⟨cutHeight_eq yl yr x, cutHeight_between yl yr hle⟩

end Sys2Proof.Machine
end

section
/-! The rejection test and the offer that applies it (R144, R145). -/

namespace Sys2Proof.Machine

/-! ## The test -/

/-- R145: an outlier lies further from the record's mean than the expected spread, both sides scaled to integers. -/
theorem isOutlier_iff {k : StackSettings} {sum : Int} {n : Nat} {c : Int} : isOutlier k sum n c = true ↔
    65536 * (c * n - sum) ^ 2 > (k.kq : Int) ^ 2 * (256 * k.readVariance * (n : Int) ^ 2 + k.shot * max sum 0 * n) :=
  decide_eq_true_iff

/-- R145: every mode but OFF asks for the count and an outlier, and HIGH for one above the mean. -/
theorem rejects_iff {k : StackSettings} {r : Acc} {c : Int} : rejects k r c = true ↔
    k.rejectMode ≠ .off ∧ k.rejectMinCount ≤ r.count ∧ (k.rejectMode = .high → r.sum < c * r.count) ∧
      isOutlier k r.sum r.count c = true := by
  cases hmode : k.rejectMode with
  | off => simp [rejects, hmode]
  | high => simp [rejects, hmode, and_comm, and_left_comm]
  | both => simp [rejects, hmode]

/-! ## The offer -/

/-- An offer that meets no damaged tile, no defect and no memory error does to its record what the sample contributes. -/
theorem offer_of_readable {b : Nat} {f : SubFrame} {e : Ecc} {l : LayerId} {a sx sy : Nat} {s : State}
    (hbuffer : s.buffer b = some f) (hclean : e.uncorrectable = []) (hnormal : s.tileDamaged l (a / 4096) = false)
    (hgood : s.format.pixelIndex sx sy ∉ s.calib.defects) :
    let raw := f.raw (s.format.pixelIndex sx sy)
    let c := calibrated raw (s.calib.darkValue f.darkChoice (s.format.pixelIndex sx sy))
    offer b e l a sx sy s = applyContribution b l a (s.stacker.record l a)
      (contribute s.config s.stacker.settings raw c (s.stacker.record l a)) s := by
  simp [offer, hbuffer, hnormal, hgood, darkFails_clean e _ _ _ hclean, readFails_clean e _ _ hclean,
    recordFails_clean e _ _ _ hclean]

/-- A rejected sample is counted in the sub-frame that stands in the buffer, and changes nothing else. -/
theorem applyContribution_rejected {b : Nat} {f : SubFrame} {s : State} (hbuffer : s.buffer b = some f) (l : LayerId)
    (a : Nat) (r : Acc) : applyContribution b l a r .rejected s = s.setBuffer b (some (f.countRejected l)) := by
  simp [applyContribution, State.modifyBuffer, hbuffer]

/-- A sample below the white level is rejected or added, as the rejection test says. -/
theorem contribute_of_lt_whiteLevel {config : SessionConfig} {raw : Nat} (h : raw < config.whiteLevel) (k : StackSettings)
    (c : Int) (r : Acc) : contribute config k raw c r =
      if rejects k r c then .rejected else .added { r with sum := r.sum + c, count := r.count + 1 } := by
  obtain ⟨hwhite, -⟩ | ⟨-, hrej, heq⟩ | ⟨-, hadd, heq⟩ := contribute_cases config k raw c r
  · exact absurd h (not_lt.2 hwhite)
  · rw [heq, if_pos hrej]
  · rw [heq, if_neg (ne_true_of_eq_false hadd)]

/-- Settles O50: an offer that can be read comes down to the rejection test on its record, and the test's three modes are
the one conjunction of R145. -/
theorem rejectionTest : Obligations.RejectionTest := by
  unfold Obligations.RejectionTest
  refine ⟨?offer, fun k r c => ?test⟩
  case offer =>
    intro b f e l a sx sy s hbuffer hclean hnormal hgood hlt r raw c
    have hoffer : offer b e l a sx sy s =
        applyContribution b l a r (contribute s.config s.stacker.settings raw c r) s :=
      offer_of_readable hbuffer hclean hnormal hgood
    rw [hoffer, contribute_of_lt_whiteLevel hlt]
    split
    case isTrue => exact applyContribution_rejected hbuffer l a r
    case isFalse => rfl
  case test => rw [rejects_iff, isOutlier_iff]

end Sys2Proof.Machine
end

section
/-! POWER.NAP (R183): the delay it sets, and the request in the power states that take it and in SLEEP. -/

namespace Sys2Proof.Machine

/-- R183: a delay of 0 stays 0, and every other one is held between 100 and 600,000. -/
theorem napDelayOf_eq_ite (delay : Nat) : napDelayOf delay =
    if delay = 0 then 0 else if delay < 100 then 100 else if 600000 < delay then 600000 else delay := by
  rw [napDelayOf, clampN_eq_ite (by omega)]

/-- The POWER_NAP command serves its request and never stops the part. -/
theorem exec_powerNap (f : ReqFrame) (s : State) : exec (.powerNap f) s =
    .next (serve .powerNap f (readOne 4) ownPowerNap s) := rfl

/-- The owner of POWER.NAP takes every delay: it sets the clamped delay and restarts the timer. -/
theorem settle_ownPowerNap (f : ReqFrame) (delay : Nat) (s : State) :
    settle Req.powerNap.code f.tag (ownPowerNap delay s) =
      { s with power := { s.power with napDelay := napDelayOf delay, napTimer := 0 } }.answered .powerNap f .ok .empty := by
  rw [ownPowerNap, settle_accept]

/-- Settles O21: awake, the owner's answer stands on the part as entered, with its clamp read as R183 words it; in SLEEP the
dispatch answers. -/
theorem napDelaySet : Obligations.NapDelaySet := by
  unfold Obligations.NapDelaySet
  intro f delay s hrdy hread u d
  refine ⟨fun hawake => ?awake, fun hsleep => ?asleep⟩
  case awake =>
    have hdelay : napDelayOf delay = d := napDelayOf_eq_ite delay
    rw [exec_powerNap, serve_owner s _ f _ _ ⟨hrdy, hawake⟩ hread, settle_ownPowerNap, hdelay]
  case asleep => rw [exec_powerNap, serve_asleep s _ f _ _ hrdy hsleep rfl]

end Sys2Proof.Machine
end
